-- ==== Sys2Proof/Word.lean ====
section
/-!
DEFINITION. The plain value types of the engine: bytes, codes, frame modes, pin directions, signals.
Their numeric codes are in Sys2Proof/Decode.lean.
-/

namespace Sys2Proof

/-- A byte of the buffer space and of the shifter: 8 bits (R6). -/
abbrev Byte := BitVec 8

/-- The step register's value: 5 bits (R31, R88). -/
abbrev StepCode := BitVec 5

/-- An I2C slave address: 7 bits (R6, R33). -/
abbrev SlaveAddress := BitVec 7

/-- The frame modes (R6, R84). -/
inductive Frame where
  | first
  | next
  | last
  | firstAndLast
deriving DecidableEq, Repr

/-- The directions of a pin (R35, R90). -/
inductive Direction where
  | outputOpenDrain
  | input
  | outputPushPull
deriving DecidableEq, Repr

/-- The error kinds an `error` signal carries (R86). Code 0 is reserved and has no constructor (I14). -/
inductive ErrorKind where
  | nack
  | notWriting
  | notReading
deriving DecidableEq, Repr

/-- The produced signals (R87, R240). -/
inductive Signal where
  | dataAvailable
  | dataWritten
  | error (kind : ErrorKind)
  | writeStopped
  | readStopped
deriving DecidableEq, Repr

end Sys2Proof
end

