-- ==== Sys2Proof/Config.lean ====
section
/-!
DEFINITION. What an implementation fixes (the width parameters of R7) and the free values of the model.
-/

namespace Sys2Proof

/-- The two width parameters the spec leaves open (R7): `aw`, the width of a buffer address, and `sw`,
the width of a buffer size. The machine holds them in its state, and no step changes them, so a statement
about every state is a statement about every choice of them (log entry 1). -/
structure Config.Widths where
  aw : Nat
  sw : Nat
deriving DecidableEq, Repr

/-- The values the spec's examples use (R7): DESIGN CHOICE for the reset state and for the table words
(log entry 1). -/
def Config.exampleWidths : Config.Widths := { aw := 16, sw := 16 }

/-- What the spec asks of the parameters: `AW >= 1`, `SW >= 1` (R7) and `AW <= 32` (R80). -/
abbrev Config.Widths.wf (p : Config.Widths) : Prop := 1 ≤ p.aw ∧ p.aw ≤ 32 ∧ 1 ≤ p.sw

/-- FREE VALUE (R117, log entry 4): whether the bus environment pulls SDA low at the `n`-th sample of a
run. It has no body: nothing can be proved about its values. -/
opaque Config.envLowSda : Nat → Bool

end Sys2Proof
end

