-- ==== Sys2Proof/Syntax.lean ====
section
/-!
DEFINITION. The instructions: the 8 host commands (R81) and the 18 steps (R88), one constructor per row
of spec/opcode_table.json.
-/

namespace Sys2Proof

/-- What the engine can execute at one transition (R111): a command the port has admitted, with its
operands, or the step a timer fire runs. -/
inductive Instr where
  /-- INIT, op 0x1 (R191). -/
  | init
  /-- SET_ADDRESS, op 0x2: `A[6:0]` (R192). -/
  | setAddress (addr : SlaveAddress)
  /-- SET_FRAME, op 0x3: `A[1:0]` as a frame mode (R193, R84). -/
  | setFrame (frame : Frame)
  /-- WRITE, op 0x4: `A` = buffer base, `B` = size in bytes (R194). -/
  | write (base : BitVec 32) (size : Nat)
  /-- READ, op 0x5: `A` = buffer base, `B` = size in bytes (R195). -/
  | read (base : BitVec 32) (size : Nat)
  /-- STOP_WRITE, op 0x6 (R196). -/
  | stopWrite
  /-- STOP_READ, op 0x7 (R197). -/
  | stopRead
  /-- SET_FREQUENCY, op 0x8: `A` = frequency, ignored (R198). -/
  | setFrequency (hz : BitVec 32)
  /-- IDLE, step code 0x00 (R120). -/
  | idle
  /-- START_SDA_LOW, step code 0x01 (R131). -/
  | startSdaLow
  /-- START_SCL_LOW, step code 0x02 (R132). -/
  | startSclLow
  /-- RESTART_SDA_HIGH, step code 0x03 (R133). -/
  | restartSdaHigh
  /-- RESTART_SCL_HIGH, step code 0x04 (R134). -/
  | restartSclHigh
  /-- WBIT_SDA, step code 0x05 (R151). -/
  | wbitSda
  /-- WBIT_SCL_HIGH, step code 0x06 (R152). -/
  | wbitSclHigh
  /-- WBIT_SCL_LOW, step code 0x07 (R153). -/
  | wbitSclLow
  /-- CACK_SCL_HIGH, step code 0x08 (R171). -/
  | cackSclHigh
  /-- CACK_SCL_LOW, step code 0x09 (R172). -/
  | cackSclLow
  /-- RBIT_SCL_HIGH, step code 0x0A (R154). -/
  | rbitSclHigh
  /-- RBIT_SCL_LOW, step code 0x0B (R155). -/
  | rbitSclLow
  /-- SACK_SDA, step code 0x0C (R173). -/
  | sackSda
  /-- SACK_SCL_HIGH, step code 0x0D (R174). -/
  | sackSclHigh
  /-- SACK_SCL_LOW, step code 0x0E (R175). -/
  | sackSclLow
  /-- STOP_SDA_LOW, step code 0x0F (R135). -/
  | stopSdaLow
  /-- STOP_SCL_HIGH, step code 0x10 (R136). -/
  | stopSclHigh
  /-- STOP_SDA_HIGH, step code 0x11 (R137). -/
  | stopSdaHigh
deriving DecidableEq, Repr

end Sys2Proof
end

