-- ==== Sys2Proof/WellFormed.lean ====
section
/-!
DEFINITION. Which instructions a command triple can spell (R80, R83). The 7-bit address, the frame mode
and the 32-bit operands carry their own bounds in their types.
-/

namespace Sys2Proof

/-- Operand B of a triple is `SW` bits wide (R80). -/
abbrev Config.Widths.sizeFits (p : Config.Widths) (size : Nat) : Prop := size < 2 ^ p.sw

/-- The buffer lies inside `BUF`: `A + B <= 2^AW` (R83, R68). -/
abbrev Config.Widths.bufferFits (p : Config.Widths) (base : BitVec 32) (size : Nat) : Prop :=
  base.toNat + size ≤ 2 ^ p.aw

/-- The well-formed instructions of an engine with widths `p` (R83): only WRITE and READ have operands
that their types do not bound already. -/
def Instr.wf (p : Config.Widths) : Instr → Bool
  | .write base size => decide (p.sizeFits size) && decide (p.bufferFits base size)
  | .read base size => decide (p.sizeFits size) && decide (p.bufferFits base size)
  | .init | .setAddress _ | .setFrame _ | .stopWrite | .stopRead | .setFrequency _ => true
  | .idle | .startSdaLow | .startSclLow | .restartSdaHigh | .restartSclHigh => true
  | .wbitSda | .wbitSclHigh | .wbitSclLow | .cackSclHigh | .cackSclLow => true
  | .rbitSclHigh | .rbitSclLow | .sackSda | .sackSclHigh | .sackSclLow => true
  | .stopSdaLow | .stopSclHigh | .stopSdaHigh => true

/-- The steps: the instructions a timer fire runs (R88). -/
def Instr.isStep : Instr → Bool
  | .init | .setAddress _ | .setFrame _ | .write _ _ | .read _ _ => false
  | .stopWrite | .stopRead | .setFrequency _ => false
  | .idle | .startSdaLow | .startSclLow | .restartSdaHigh | .restartSclHigh => true
  | .wbitSda | .wbitSclHigh | .wbitSclLow | .cackSclHigh | .cackSclLow => true
  | .rbitSclHigh | .rbitSclLow | .sackSda | .sackSclHigh | .sackSclLow => true
  | .stopSdaLow | .stopSclHigh | .stopSdaHigh => true

end Sys2Proof
end

