-- ==== Sys2Proof/Decode.lean ====
section
/-!
DEFINITION. Encodings (spec/30_encoding.md): value codes, the command port's decoder (R94), the step
codes (R88), the encoder, and the numbering of spec/opcode_table.json's words.
-/

namespace Sys2Proof

/-- Frame codes (R84). -/
def Frame.code : Frame → BitVec 2
  | .first => 0
  | .next => 1
  | .last => 2
  | .firstAndLast => 3

/-- The frame mode of a 2-bit code: every code spells one (R84). -/
def Frame.ofCode (c : BitVec 2) : Frame :=
  if c = 0 then .first else if c = 1 then .next else if c = 2 then .last else .firstAndLast

/-- Direction codes (R90). -/
def Direction.code : Direction → Nat
  | .outputOpenDrain => 0
  | .input => 1
  | .outputPushPull => 2

/-- Error codes (R86). -/
def ErrorKind.code : ErrorKind → Nat
  | .nack => 1
  | .notWriting => 2
  | .notReading => 3

/-- Signal codes (R87). -/
def Signal.code : Signal → Nat
  | .dataAvailable => 1
  | .dataWritten => 2
  | .error _ => 3
  | .writeStopped => 4
  | .readStopped => 5

/-- A command triple `(op, A, B)` as the host presents it (R80). `B` is `SW` bits wide, and `SW` is a
parameter, so it is a number here and `Command.onPort` says that it fits. -/
structure Command where
  op : BitVec 4
  a : BitVec 32
  b : Nat
deriving DecidableEq, Repr

/-- The triple exists on a port of width `SW` (R80). -/
abbrev Command.onPort (p : Config.Widths) (c : Command) : Prop := p.sizeFits c.b

/-- The command port's refusal reasons (R234). -/
inductive RefusalReason where
  | reservedOpcode
  | operandNonzero
  | operandRange
  | bufferRange
deriving DecidableEq, Repr

/-- What decoding answers. -/
inductive Decoded where
  /-- The instruction the bits spell. -/
  | instr (i : Instr)
  /-- The command port refuses the triple, by the reason R94 names. -/
  | refused (r : RefusalReason)
  /-- The value of `B` does not fit the port's `SW` bits, so this is no triple (R80, log entry 2). -/
  | notATriple
  /-- A reserved step code, 0x12 to 0x1F (R89). -/
  | reservedStep
deriving DecidableEq, Repr

/-- `require ok else refuse(r)` of R94's notation. -/
def require (ok : Bool) (r : RefusalReason) (d : Decoded) : Decoded := if ok then d else .refused r

/-- The command port's decoder (R94), for a triple that is on the port: the checks in the order written,
the first that fails names the refusal. -/
def decodeTriple (p : Config.Widths) (c : Command) : Decoded :=
  if c.op = 0x1 then
    require (decide (c.a = 0 ∧ c.b = 0)) .operandNonzero (.instr .init)
  else if c.op = 0x2 then
    require (decide (c.a.toNat ≤ 0x7F)) .operandRange
      (require (decide (c.b = 0)) .operandNonzero (.instr (.setAddress (c.a.setWidth 7))))
  else if c.op = 0x3 then
    require (decide (c.a.toNat ≤ 3)) .operandRange
      (require (decide (c.b = 0)) .operandNonzero (.instr (.setFrame (Frame.ofCode (c.a.setWidth 2)))))
  else if c.op = 0x4 then
    require (decide (p.bufferFits c.a c.b)) .bufferRange (.instr (.write c.a c.b))
  else if c.op = 0x5 then
    require (decide (p.bufferFits c.a c.b)) .bufferRange (.instr (.read c.a c.b))
  else if c.op = 0x6 then
    require (decide (c.a = 0 ∧ c.b = 0)) .operandNonzero (.instr .stopWrite)
  else if c.op = 0x7 then
    require (decide (c.a = 0 ∧ c.b = 0)) .operandNonzero (.instr .stopRead)
  else if c.op = 0x8 then
    require (decide (c.b = 0)) .operandNonzero (.instr (.setFrequency c.a))
  else .refused .reservedOpcode

/-- Decoding what the host presents: R94 for a triple of the port's width (R80). -/
def decodeCommand (p : Config.Widths) (c : Command) : Decoded :=
  if c.onPort p then decodeTriple p c else .notATriple

/-- The step a code names (R88); the reserved codes name none (R89). -/
def stepOfCode (code : StepCode) : Option Instr :=
  if code = 0x00 then some .idle
  else if code = 0x01 then some .startSdaLow
  else if code = 0x02 then some .startSclLow
  else if code = 0x03 then some .restartSdaHigh
  else if code = 0x04 then some .restartSclHigh
  else if code = 0x05 then some .wbitSda
  else if code = 0x06 then some .wbitSclHigh
  else if code = 0x07 then some .wbitSclLow
  else if code = 0x08 then some .cackSclHigh
  else if code = 0x09 then some .cackSclLow
  else if code = 0x0A then some .rbitSclHigh
  else if code = 0x0B then some .rbitSclLow
  else if code = 0x0C then some .sackSda
  else if code = 0x0D then some .sackSclHigh
  else if code = 0x0E then some .sackSclLow
  else if code = 0x0F then some .stopSdaLow
  else if code = 0x10 then some .stopSclHigh
  else if code = 0x11 then some .stopSdaHigh
  else none

/-- Where an instruction's bits stand: on the command port (R80) or in the step register (R88). -/
inductive Encoding where
  | command (c : Command)
  | step (code : StepCode)
deriving DecidableEq, Repr

/-- The decoder, total on both encoding spaces. -/
def decode (p : Config.Widths) : Encoding → Decoded
  | .command c => decodeCommand p c
  | .step code =>
    match stepOfCode code with
    | some i => .instr i
    | none => .reservedStep

/-- The encoder, from the tables of R81 and R88. -/
def encode : Instr → Encoding
  | .init => .command { op := 0x1, a := 0, b := 0 }
  | .setAddress addr => .command { op := 0x2, a := addr.setWidth 32, b := 0 }
  | .setFrame frame => .command { op := 0x3, a := frame.code.setWidth 32, b := 0 }
  | .write base size => .command { op := 0x4, a := base, b := size }
  | .read base size => .command { op := 0x5, a := base, b := size }
  | .stopWrite => .command { op := 0x6, a := 0, b := 0 }
  | .stopRead => .command { op := 0x7, a := 0, b := 0 }
  | .setFrequency hz => .command { op := 0x8, a := hz, b := 0 }
  | .idle => .step 0x00
  | .startSdaLow => .step 0x01
  | .startSclLow => .step 0x02
  | .restartSdaHigh => .step 0x03
  | .restartSclHigh => .step 0x04
  | .wbitSda => .step 0x05
  | .wbitSclHigh => .step 0x06
  | .wbitSclLow => .step 0x07
  | .cackSclHigh => .step 0x08
  | .cackSclLow => .step 0x09
  | .rbitSclHigh => .step 0x0A
  | .rbitSclLow => .step 0x0B
  | .sackSda => .step 0x0C
  | .sackSclHigh => .step 0x0D
  | .sackSclLow => .step 0x0E
  | .stopSdaLow => .step 0x0F
  | .stopSclHigh => .step 0x10
  | .stopSdaHigh => .step 0x11

/-- The encoding exists on an engine with widths `p` (only `B` needs saying, R80). -/
def Encoding.onPort (p : Config.Widths) : Encoding → Bool
  | .command c => decide (c.onPort p)
  | .step _ => true

/-- An encoding as one number, bits counted as spec/opcode_table.json counts them: `op` in bits 3..0, then
`A` in bits 35..4, then `B` from bit 36 up; or the step code (DESIGN CHOICE, log entry 3). -/
def Encoding.word : Encoding → Nat
  | .command c => c.op.toNat + c.a.toNat * 2 ^ 4 + c.b * 2 ^ 36
  | .step code => code.toNat

/-- The triple in a word of that layout. -/
def commandOfWord (p : Config.Widths) (w : Nat) : Command :=
  { op := BitVec.ofNat 4 w, a := BitVec.ofNat 32 (w / 2 ^ 4), b := (w / 2 ^ 36) % 2 ^ p.sw }

/-- Which encoding a word of the opcode table stands for (log entry 3). The table has two spaces that
overlap: a 4-bit command op and a 5-bit step code. A word given as 5 bits is a step code and one of
at most 4 bits a command; any other is a command where the port admits it (with operands of zeros above
`nbits`), and else a step code where it is at most 0x1F. -/
def tableEncoding (nbits w : Nat) : Encoding :=
  let v := w % 2 ^ nbits
  let c := commandOfWord Config.exampleWidths v
  if nbits = 5 then .step (BitVec.ofNat 5 v)
  else if nbits ≤ 4 then .command c
  else
    match decodeCommand Config.exampleWidths c with
    | .instr _ => .command c
    | .refused _ | .notATriple | .reservedStep =>
      if v ≤ 0x1F then .step (BitVec.ofNat 5 v) else .command c

/-- The instruction the decoder reads from a word of the opcode table. -/
def decodeTableWord (nbits w : Nat) : Option Instr :=
  match decode Config.exampleWidths (tableEncoding nbits w) with
  | .instr i => some i
  | .refused _ | .notATriple | .reservedStep => none

end Sys2Proof
end

