-- ==== Sys2Proof/Machine/State.lean ====
section
/-!
DEFINITION. The machine's state (spec/10_state.md), its value after reset, and the reasons a step stops.
-/

namespace Sys2Proof.Machine

/-- One pin as the engine drives it: its direction and the level last written (R35, R36). -/
structure Line where
  dir : Direction
  latch : Bool
deriving DecidableEq, Repr

/-- A call of the pin capability (R114). `state` records the level the call returned (R43). -/
inductive LineCall where
  | set
  | reset
  | setDirection (d : Direction)
  | state (level : Bool)
deriving DecidableEq, Repr

/-- One entry of the pin-call log: a call on SDA, on SCL or on the timer (R43, R114, R118). -/
inductive PinCall where
  | sda (c : LineCall)
  | scl (c : LineCall)
  | timerStart
  | timerStop
deriving DecidableEq, Repr

/-- The fault reasons (R233). -/
inductive FaultReason where
  | busyCommand
  | emptyDirectTransfer
  | unreachableStep
deriving DecidableEq, Repr

/-- An entry of the `faults` set (R42): a fault reason or a refusal reason. -/
inductive Mark where
  | fault (r : FaultReason)
  | refusal (r : RefusalReason)
deriving DecidableEq, Repr

/-- What the host can do to the machine: present a command triple (R111), or, while no
transaction is in flight, store a byte of its buffer space (R60, R71). -/
inductive HostAct where
  | command (c : Command)
  | store (addr : Nat) (value : Byte)
deriving DecidableEq, Repr

/-- One pending move of the host, with how many timer fires still come before it. A command and a fire
that are both enabled may go in either order (R111); this number says in which, and every number is a
state, so a statement about every state is about every order (log entry 5). -/
structure HostMove where
  afterFires : Nat
  act : HostAct
deriving DecidableEq, Repr

/-- The whole machine: the tuple of R20, the caller buffer space (R60), the width parameters (R7), and
the inputs that are still to come (the model's own fields, the last three). -/
structure State where
  /-- The width parameters `AW` and `SW` (R7). -/
  widths : Config.Widths
  /-- The caller buffer space `BUF` (R60), in the canonical form `Memory.wf`. -/
  buf : List Host.Cell
  /-- R21 -/
  activeByte : Byte
  /-- R22 -/
  bitIndex : BitVec 3
  /-- R23: the base address, or `none` for NULL (a number, log entry 17). -/
  data : Option Nat
  /-- R24 -/
  dataSize : Nat
  /-- R25 -/
  dataIndex : Nat
  /-- R26 -/
  writingAddress : Bool
  /-- R27 -/
  lastFrame : Frame
  /-- R28 -/
  lastOperationWasWrite : Bool
  /-- R29 -/
  acknowledgeBit : Bool
  /-- R30 -/
  acknowledgeError : Bool
  /-- R31: the step the next fire runs, the engine's program counter. -/
  step : StepCode
  /-- R32 -/
  sampledBit : Bool
  /-- R33 -/
  cfgAddress : SlaveAddress
  /-- R34 -/
  cfgFrame : Frame
  /-- R35 -/
  sda : Line
  /-- R36 -/
  scl : Line
  /-- R37 -/
  timerArmed : Bool
  /-- R42: a set, listed in the order of entry, without repeats (log entry 11). -/
  faults : List Mark
  /-- R43, oldest first. -/
  signalLog : List Signal
  /-- R43, oldest first. -/
  pinCallLog : List PinCall
  /-- The host's moves still to come, next first (log entry 5). -/
  hostMoves : List HostMove
  /-- The environment's levels at the next samples, next first: `true` pulls SDA low (R117, log entry 4). -/
  envDraws : List Bool
  /-- How many samples have been taken: the argument of the free value `Config.envLowSda` when
  `envDraws` is used up (log entry 4). -/
  samplesTaken : Nat
deriving DecidableEq, Repr

/-- The state after reset (R44, R260, R261): the table of R44, with the five calls of InitBus in the
pin-call log (log entries 14 and 18). The widths (log entry 1), the buffer space (log entry 6) and the pending inputs
(log entries 4 and 5) are the model's. -/
def State.reset : State where
  widths := Config.exampleWidths
  buf := []
  activeByte := 0x00
  bitIndex := 7
  data := none
  dataSize := 0
  dataIndex := 0
  writingAddress := false
  lastFrame := .firstAndLast
  lastOperationWasWrite := false
  acknowledgeBit := false
  acknowledgeError := false
  step := 0x00
  sampledBit := false
  cfgAddress := 0x00
  cfgFrame := .firstAndLast
  sda := { dir := .outputOpenDrain, latch := true }
  scl := { dir := .outputOpenDrain, latch := true }
  timerArmed := false
  faults := []
  signalLog := []
  pinCallLog :=
    [.timerStop, .scl .set, .sda .set, .scl (.setDirection .outputOpenDrain),
      .sda (.setDirection .outputOpenDrain)]
  hostMoves := []
  envDraws := []
  samplesTaken := 0

/-- Why a step stops with a fault: the spec's own reasons (`raised`), and four of the model's (log entry
12). -/
inductive Fault where
  /-- `raise Fault(r)` (R233), raised by SET_ADDRESS, SET_FRAME, WRITE and READ and by a fire. `after` is
  the state it leaves: the reason is in `faults` and nothing else of the engine has changed (R42). Safe:
  the spec gives such a run no further meaning (R9, log entry 10). -/
  | raised (r : FaultReason) (after : State)
  /-- A payload access with `data` NULL, raised by the buffer accesses of WRITE, CACK_SCL_LOW and
  SACK_SCL_LOW: there is no address. Safe; no state with the invariant reaches it (R41(d)). -/
  | nullBuffer
  /-- A buffer access at an address of `2^AW` or more, which `BUF` does not have (R60, R68), raised by the
  same accesses. Safe; no state with the invariant reaches it. -/
  | noSuchByte (addr : Nat)
  /-- A sample of SDA while it is push-pull high and the environment pulls low (R115: no meaning; I15:
  fault), raised by CACK_SCL_LOW and RBIT_SCL_HIGH. Safe; the engine never selects push-pull. -/
  | contention
  /-- Stuck (R9): no transition is enabled although the step register is not IDLE, raised by `fetch`.
  Safe; no state with the invariant reaches it (R41(a)). -/
  | stuck
deriving DecidableEq, Repr

/-- Why a step is refused. -/
inductive Refusal where
  /-- An instruction the model has no meaning for. No arm answers it. Safe. -/
  | notModelled (mnemonic : String)
  /-- The command port refuses the triple (R234), raised by `fetch`. `after` is the state it leaves: the
  reason is in `faults` and nothing else of the engine has changed (R42). Safe. -/
  | port (r : RefusalReason) (after : State)
  /-- The host presents a `B` wider than the port's `SW` bits: no such triple exists (R80), raised by
  `fetch`. Safe (log entry 2). -/
  | notATriple
  /-- A store the model gives the host no move for: a transaction is in flight (R70, R71, R263) or the
  byte is not in `BUF` (R60), raised by `fetch`. Safe (log entry 9). -/
  | noHostMove (addr : Nat)
deriving DecidableEq, Repr

end Sys2Proof.Machine
end

