-- ==== Sys2Proof/Machine/Ops.lean ====
section
/-!
DEFINITION. The named operations over memory, pins, timer, logs and marks (spec/20_memory.md,
spec/40_step_engine.md), the procedures InitBus, DeinitBus and ClearContext, the reset procedure, and
the error path.
-/

namespace Sys2Proof.Machine

/-- What a transition answers (R9). -/
abbrev Result := Host.Outcome State Fault Refusal

/-- `o`, and then `k` on what it answers, unless it stops. -/
def andThen {α β : Type} (o : Host.Outcome α Fault Refusal)
    (k : α → Host.Outcome β Fault Refusal) : Host.Outcome β Fault Refusal :=
  match o with
  | .next a => k a
  | .fault f => .fault f
  | .refused r => .refused r

/-! The caller buffer space (R60). -/

/-- What a byte of `BUF` that nothing has written reads as: 0x00, a DESIGN CHOICE (log entry 6). -/
def Memory.unlisted : Byte := 0x00

/-- The byte at an address. -/
def Memory.read : List Host.Cell → Nat → Byte
  | [], _ => Memory.unlisted
  | (k, v) :: m, a => if k = a then v else Memory.read m a

/-- Write one byte, keeping the canonical form. -/
def Memory.write : List Host.Cell → Nat → Byte → List Host.Cell
  | [], a, v => if v = Memory.unlisted then [] else [(a, v)]
  | (k, x) :: m, a, v =>
    if a < k then (if v = Memory.unlisted then (k, x) :: m else (a, v) :: (k, x) :: m)
    else if a = k then (if v = Memory.unlisted then m else (a, v) :: m)
    else (k, x) :: Memory.write m a v

/-- The cells rise strictly from `lo` up, stay below `hi`, and none holds the unlisted value. -/
def Memory.wfFrom (lo hi : Nat) : List Host.Cell → Bool
  | [] => true
  | (k, v) :: m => decide (lo ≤ k) && decide (k < hi) && decide (v ≠ Memory.unlisted) && Memory.wfFrom (k + 1) hi m

/-- The canonical form of the buffer space of `2^aw` bytes (R60). -/
def Memory.wf (aw : Nat) (m : List Host.Cell) : Bool := Memory.wfFrom 0 (2 ^ aw) m

/-- `MemRead(addr, 1)` (R61). -/
def State.memRead (s : State) (addr : Nat) : Host.Outcome Byte Fault Refusal :=
  if addr < 2 ^ s.widths.aw then .next (Memory.read s.buf addr) else .fault (.noSuchByte addr)

/-- `MemWrite(addr, 1, v)` (R62). -/
def State.memWrite (s : State) (addr : Nat) (v : Byte) : Result :=
  if addr < 2 ^ s.widths.aw then .next { s with buf := Memory.write s.buf addr v }
  else .fault (.noSuchByte addr)

/-! Pins, timer and logs (R114 to R118, R121). -/

/-- Append one entry to the pin-call log (R43). -/
def State.logCall (s : State) (c : PinCall) : State := { s with pinCallLog := s.pinCallLog ++ [c] }

/-- `SDA.set()` (R114). -/
def State.sdaSet (s : State) : State :=
  { s with sda := { s.sda with latch := true } }.logCall (.sda .set)

/-- `SDA.reset()` (R114). -/
def State.sdaReset (s : State) : State :=
  { s with sda := { s.sda with latch := false } }.logCall (.sda .reset)

/-- `SDA.setDirection(d)`: the latch is kept (R114). -/
def State.sdaSetDirection (s : State) (d : Direction) : State :=
  { s with sda := { s.sda with dir := d } }.logCall (.sda (.setDirection d))

/-- `SCL.set()` (R114). -/
def State.sclSet (s : State) : State :=
  { s with scl := { s.scl with latch := true } }.logCall (.scl .set)

/-- `SCL.reset()` (R114). -/
def State.sclReset (s : State) : State :=
  { s with scl := { s.scl with latch := false } }.logCall (.scl .reset)

/-- `SCL.setDirection(d)`: the latch is kept (R114). -/
def State.sclSetDirection (s : State) (d : Direction) : State :=
  { s with scl := { s.scl with dir := d } }.logCall (.scl (.setDirection d))

/-- `timer.start()` (R118). -/
def State.timerStart (s : State) : State := { s with timerArmed := true }.logCall .timerStart

/-- `timer.stop()` (R118). -/
def State.timerStop (s : State) : State := { s with timerArmed := false }.logCall .timerStop

/-- The master pulls a line low: an output whose latch is 0 (R115, R116). -/
def Line.pullsLow (l : Line) : Bool := decide (l.dir ≠ .input) && !l.latch

/-- `wire(SDA)` with the environment's drive `envLow` (R115). -/
def State.sdaWire (s : State) (envLow : Bool) : Bool := !(s.sda.pullsLow || envLow)

/-- `wire(SCL)`: the environment never drives SCL (R116, log entry 16). -/
def State.sclWire (s : State) : Bool := !s.scl.pullsLow

/-- The environment's drive at the next sample (R117): the next given draw, or else the free value. -/
def State.envLowSda (s : State) : Bool :=
  match s.envDraws with
  | d :: _ => d
  | [] => Config.envLowSda s.samplesTaken

/-- The draw of this sample is used up. -/
def State.drawTaken (s : State) : State :=
  { s with envDraws := s.envDraws.drop 1, samplesTaken := s.samplesTaken + 1 }

/-- Push-pull high against an environment that pulls low has no meaning (R115, I15). -/
def State.sdaContends (s : State) : Bool :=
  decide (s.sda.dir = .outputPushPull) && s.sda.latch && s.envLowSda

/-- `SDA.state()`: a sample with a fresh draw (R114, R117). It answers the level and the state in which
the call is logged. -/
def State.sdaSample (s : State) : Host.Outcome (Bool × State) Fault Refusal :=
  if s.sdaContends then .fault .contention
  else .next (s.sdaWire s.envLowSda, s.drawTaken.logCall (.sda (.state (s.sdaWire s.envLowSda))))

/-- `emit S` (R121). -/
def State.emit (s : State) (sig : Signal) : State := { s with signalLog := s.signalLog ++ [sig] }

/-- `step <- S; timer.start()`, the end of a step that has a successor (R113). -/
def State.goto (s : State) (code : StepCode) : State := { s with step := code }.timerStart

/-- `step <- IDLE` without a `timer.start()` (R113). -/
def State.rest (s : State) : State := { s with step := 0x00 }

/-! Marks (R42). -/

/-- Add an entry to the `faults` set: nothing else changes (R42). -/
def State.mark (s : State) (m : Mark) : State :=
  { s with faults := if m ∈ s.faults then s.faults else s.faults ++ [m] }

/-- `raise Fault(r)` (R8, R42). -/
def State.raise (s : State) (r : FaultReason) : Fault := .raised r (s.mark (.fault r))

/-- `refuse(r)` (R8, R42). -/
def State.refuse (s : State) (r : RefusalReason) : Refusal := .port r (s.mark (.refusal r))

/-! Procedures. -/

/-- ClearContext (R138). -/
def State.clearContext (s : State) : State := { s with data := none, dataSize := 0, dataIndex := 0 }

/-- The register part of InitBus (R200). `CFG_ADDRESS` and `CFG_FRAME` are not changed. -/
def State.resetContext (s : State) : State :=
  { s with
    activeByte := 0, bitIndex := 7, sampledBit := false
    data := none, dataSize := 0, dataIndex := 0
    writingAddress := false, acknowledgeBit := false, acknowledgeError := false
    lastFrame := .firstAndLast, lastOperationWasWrite := false
    step := 0x00 }

/-- InitBus (R200). -/
def State.initBus (s : State) : State :=
  let s := s.timerStop.sclSet.sdaSet
  let s := s.sclSetDirection .outputOpenDrain
  let s := s.sdaSetDirection .outputOpenDrain
  s.resetContext

/-- DeinitBus (R199): SCL first. -/
def State.deinitBus (s : State) : State :=
  (s.sclSetDirection .input).sdaSetDirection .input

/-- The reset procedure (R260; no transition, log entry 14): InitBus, and the configuration registers at their reset values. -/
def State.hardReset (s : State) : State :=
  { s.initBus with cfgAddress := 0x00, cfgFrame := .firstAndLast }

/-- The error path's entry on a NACK (R177, R238): the engine's one reaction to an error. It saves
`acknowledgeError = 1` and goes to the fixed step STOP_SDA_LOW. The path's exit is STOP_SDA_HIGH
(R137, R239): there is no return. -/
def State.enterErrorPath (s : State) : State := { s with acknowledgeError := true }.goto 0x0F

end Sys2Proof.Machine
end

