-- ==== Sys2Proof/Machine/Flags.lean ====
section
/-!
DEFINITION. The derived conditions the rules test: busy, currently writing and reading, the frame
policy, the restart decision, the acknowledge decisions and the completion signal.
-/

namespace Sys2Proof.Machine

/-- `busy` (R38). The host may read it at any time. -/
def State.busy (s : State) : Bool := decide (s.step ≠ 0x00)

/-- *Currently writing* (R39). -/
def State.currentlyWriting (s : State) : Bool := s.busy && s.lastOperationWasWrite

/-- *Currently reading* (R39). -/
def State.currentlyReading (s : State) : Bool := s.busy && !s.lastOperationWasWrite

/-- The frames that begin with a Start and the address byte: First and FirstAndLast (R84, R194, R195). -/
def beginsWithStart : Frame → Bool
  | .first | .firstAndLast => true
  | .next | .last => false

/-- The frames that end with a Stop: Last and FirstAndLast (R84, R177). The others hold the bus. -/
def endsWithStop : Frame → Bool
  | .last | .firstAndLast => true
  | .first | .next => false

/-- The restart test of READ, on the values before the command (R195): the previous operation was a
write with frame First or Next. -/
def State.restartDue (s : State) : Bool := s.lastOperationWasWrite && !endsWithStop s.lastFrame

/-- "more bytes of this call remain" at a set-acknowledge: `dataIndex + 1 < dataSize`, without wrap
(R173). -/
def State.moreToRead (s : State) : Bool := decide (s.dataIndex + 1 < s.dataSize)

/-- `dataIndex < dataSize`: bytes are pending (R177). -/
def State.bytesPending (s : State) : Bool := decide (s.dataIndex < s.dataSize)

/-- The two callers of FinishAck (R176). -/
inductive AckKind where
  | check
  | set
deriving DecidableEq, Repr

/-- The NACK case: only after a check-acknowledge (R177, R178). -/
def State.nacked (s : State) : AckKind → Bool
  | .check => s.acknowledgeBit
  | .set => false

/-- The signal of a successful transfer in the direction of the last command (R139, R177). -/
def State.successSignal (s : State) : Signal :=
  if s.lastOperationWasWrite then .dataWritten else .dataAvailable

/-- CompletionSignal (R139). -/
def State.completionSignal (s : State) : Signal :=
  if s.acknowledgeError then .error .nack else s.successSignal

/-- The host has a store to `addr`: the byte is in `BUF` (R60) and no transaction is in flight. While one is,
the engine is the only agent that accesses `BUF` (R70) and the host has no move that touches it (R71). -/
def State.hostMayStore (s : State) (addr : Nat) : Bool := !s.busy && decide (addr < 2 ^ s.widths.aw)

end Sys2Proof.Machine
end

