-- ==== Sys2Proof/Machine/Operands.lean ====
section
/-!
DEFINITION. Where a byte comes from and goes to: the address byte, the payload address, the bits of the
shifter, and the byte start procedures (spec/42_byte_shifter.md).
-/

namespace Sys2Proof.Machine

/-- `addrByte(rw)`: the 7 address bits above the R/W bit, read = 1 (R85). -/
def addressByte (a : SlaveAddress) (rw : Bool) : Byte :=
  (a.setWidth 8 <<< 1) ||| (BitVec.ofBool rw).setWidth 8

/-- The address of the payload byte in flight, `data + dataIndex` (R25, R64). -/
def State.payloadAddress (s : State) : Host.Outcome Nat Fault Refusal :=
  match s.data with
  | some d => .next (d + s.dataIndex)
  | none => .fault .nullBuffer

/-- The bit of `activeByte` that is on the line: bit `bitIndex` (R151). -/
def State.currentBit (s : State) : Bool := s.activeByte.getLsbD s.bitIndex.toNat

/-- `activeByte | (sampledBit << bitIndex)` (R155). -/
def State.accumulated (s : State) : Byte :=
  s.activeByte ||| ((BitVec.ofBool s.sampledBit).setWidth 8 <<< s.bitIndex.toNat)

/-- The end of a bit (R153, R155): after bit 0 `bitIndex` is 7 again and the byte's successor follows,
before that it counts down and the next bit follows. -/
def State.afterBit (s : State) (nextBit byteDone : StepCode) : State :=
  if s.bitIndex = 0 then { s with bitIndex := 7 }.goto byteDone
  else { s with bitIndex := s.bitIndex - 1 }.goto nextBit

/-- BeginAddressByte(rw) (R150). -/
def State.beginAddressByte (s : State) (rw : Bool) : State :=
  { s with writingAddress := true, activeByte := addressByte s.cfgAddress rw, bitIndex := 7 }

/-- BeginWriteByte (R150): the payload byte is read when its transmission begins (R61). -/
def State.beginWriteByte (s : State) : Result :=
  andThen s.payloadAddress fun addr =>
    andThen (s.memRead addr) fun v =>
      .next { s with activeByte := v, bitIndex := 7, step := 0x05 }

/-- BeginReadByte (R150). -/
def State.beginReadByte (s : State) : State :=
  { s with activeByte := 0, bitIndex := 7, step := 0x0A }

/-- The store of a received payload byte at `data + dataIndex` (R62, R176). -/
def State.storeReceived (s : State) : Result :=
  andThen s.payloadAddress fun addr => s.memWrite addr s.activeByte

end Sys2Proof.Machine
end

