-- ==== Sys2Proof/Machine/Acknowledge.lean ====
section
/-!
DEFINITION. The acknowledge handler's steps and FinishAck (spec/43_acknowledge.md).
-/

namespace Sys2Proof.Machine

/-- FinishAck, part 1 (R176): the address byte is consumed, or a received byte is stored and counted, or
a transmitted byte is counted. -/
def State.finishAckConsume (s : State) : Result :=
  if s.writingAddress then .next { s with writingAddress := false }
  else if s.lastOperationWasWrite then .next { s with dataIndex := s.dataIndex + 1 }
  else andThen s.storeReceived fun t => .next { t with dataIndex := t.dataIndex + 1 }

/-- All bytes are through (R177): a Stop for Last and FirstAndLast, else the bus is held and the success
signal comes at once. -/
def State.finishTransfer (s : State) : State :=
  if endsWithStop s.lastFrame then s.goto 0x0F else s.rest.emit s.successSignal

/-- FinishAck, part 2 (R177), the cases in the order written. -/
def State.finishAckDispatch (s : State) (kind : AckKind) : Result :=
  if s.nacked kind then .next s.enterErrorPath
  else if s.bytesPending then
    if s.lastOperationWasWrite then andThen s.beginWriteByte fun t => .next t.timerStart
    else .next s.beginReadByte.timerStart
  else .next s.finishTransfer

/-- FinishAck (R176, R177). -/
def State.finishAck (s : State) (kind : AckKind) : Result :=
  andThen s.finishAckConsume fun t => t.finishAckDispatch kind

/-- CACK_SCL_HIGH (R171). -/
def execCackSclHigh (s : State) : Result :=
  .next ((s.sdaSetDirection .input).sclSet.goto 0x09)

/-- CACK_SCL_LOW (R172): the sample with SCL high, then FinishAck(CHECK) in the same fire. -/
def execCackSclLow (s : State) : Result :=
  andThen s.sdaSample fun (level, t) =>
    ({ t with acknowledgeBit := level }.sclReset.sdaSetDirection .outputOpenDrain).finishAck .check

/-- SACK_SDA (R173): ACK while more bytes of the call remain, else NACK by an explicit release. -/
def execSackSda (s : State) : Result :=
  let t := s.sdaSetDirection .outputOpenDrain
  .next ((if t.moreToRead then t.sdaReset else t.sdaSet).goto 0x0D)

/-- SACK_SCL_HIGH (R174). -/
def execSackSclHigh (s : State) : Result := .next (s.sclSet.goto 0x0E)

/-- SACK_SCL_LOW (R175): FinishAck(SET) in the same fire. -/
def execSackSclLow (s : State) : Result := s.sclReset.finishAck .set

end Sys2Proof.Machine
end

