-- ==== Sys2Proof/Machine/Commands.lean ====
section
/-!
DEFINITION. The host commands (spec/44_commands.md).
-/

namespace Sys2Proof.Machine

/-- INIT (R191): executes in any state, no signal. -/
def execInit (s : State) : Result := .next s.initBus

/-- SET_ADDRESS (R192). -/
def execSetAddress (addr : SlaveAddress) (s : State) : Result :=
  if s.busy then .fault (s.raise .busyCommand) else .next { s with cfgAddress := addr }

/-- SET_FRAME (R193). -/
def execSetFrame (frame : Frame) (s : State) : Result :=
  if s.busy then .fault (s.raise .busyCommand) else .next { s with cfgFrame := frame }

/-- What WRITE and READ acceptance record of the call (R194, R195). -/
def State.recordCall (s : State) (base : BitVec 32) (size : Nat) (isWrite : Bool) : State :=
  { s with
    data := some base.toNat, dataSize := size, dataIndex := 0
    acknowledgeBit := false, acknowledgeError := false
    lastFrame := s.cfgFrame, lastOperationWasWrite := isWrite }

/-- WRITE (R194). -/
def execWrite (base : BitVec 32) (size : Nat) (s : State) : Result :=
  if s.busy then .fault (s.raise .busyCommand)
  else if !beginsWithStart s.cfgFrame && decide (size = 0) then .fault (s.raise .emptyDirectTransfer)
  else
    let t := s.recordCall base size true
    if beginsWithStart s.cfgFrame then .next ((t.beginAddressByte false).goto 0x01)
    else andThen { t with writingAddress := false }.beginWriteByte fun u => .next u.timerStart

/-- READ (R195). -/
def execRead (base : BitVec 32) (size : Nat) (s : State) : Result :=
  if s.busy then .fault (s.raise .busyCommand)
  else if !beginsWithStart s.cfgFrame && !s.restartDue && decide (size = 0) then
    .fault (s.raise .emptyDirectTransfer)
  else
    let t := s.recordCall base size false
    if beginsWithStart s.cfgFrame then .next ((t.beginAddressByte true).goto 0x01)
    else if s.restartDue then .next ((t.beginAddressByte true).goto 0x03)
    else .next { t with writingAddress := false }.beginReadByte.timerStart

/-- STOP_WRITE (R196): cancels at once if currently writing, else only the error signal. -/
def execStopWrite (s : State) : Result :=
  .next (if s.currentlyWriting then s.deinitBus.initBus.emit .writeStopped
    else s.emit (.error .notWriting))

/-- STOP_READ (R197). -/
def execStopRead (s : State) : Result :=
  .next (if s.currentlyReading then s.deinitBus.initBus.emit .readStopped
    else s.emit (.error .notReading))

/-- SET_FREQUENCY (R198): a no-op in every state. -/
def execSetFrequency (_hz : BitVec 32) (s : State) : Result := .next s

end Sys2Proof.Machine
end

