-- ==== Sys2Proof/Machine/Conditions.lean ====
section
/-!
DEFINITION. The condition generator's steps: start, restart, stop (spec/41_conditions.md), and IDLE.
-/

namespace Sys2Proof.Machine

/-- IDLE executes nothing; the engine waits for a command (R120). A timer fire with `step == IDLE` never
reaches this meaning: `fetch` raises UNREACHABLE_STEP (R112). -/
def execIdle (s : State) : Result := .next s

/-- START_SDA_LOW (R131). -/
def execStartSdaLow (s : State) : Result := .next (s.sdaReset.goto 0x02)

/-- START_SCL_LOW (R132). -/
def execStartSclLow (s : State) : Result := .next (s.sclReset.goto 0x05)

/-- RESTART_SDA_HIGH (R133). -/
def execRestartSdaHigh (s : State) : Result := .next (s.sdaSet.goto 0x04)

/-- RESTART_SCL_HIGH (R134). -/
def execRestartSclHigh (s : State) : Result := .next (s.sclSet.goto 0x01)

/-- STOP_SDA_LOW (R135). -/
def execStopSdaLow (s : State) : Result := .next (s.sdaReset.goto 0x10)

/-- STOP_SCL_HIGH (R136). -/
def execStopSclHigh (s : State) : Result := .next (s.sclSet.goto 0x11)

/-- STOP_SDA_HIGH (R137): the STOP condition, ClearContext (R138), and the completion signal (R139). -/
def execStopSdaHigh (s : State) : Result :=
  .next (s.sdaSet.clearContext.rest.emit s.completionSignal)

end Sys2Proof.Machine
end

