-- ==== Sys2Proof/Machine/Shifter.lean ====
section
/-!
DEFINITION. The byte shifter's steps (spec/42_byte_shifter.md).
-/

namespace Sys2Proof.Machine

/-- WBIT_SDA (R151): a 1 releases SDA, a 0 pulls it low. -/
def execWbitSda (s : State) : Result :=
  .next ((if s.currentBit then s.sdaSet else s.sdaReset).goto 0x06)

/-- WBIT_SCL_HIGH (R152). -/
def execWbitSclHigh (s : State) : Result := .next (s.sclSet.goto 0x07)

/-- WBIT_SCL_LOW (R153). -/
def execWbitSclLow (s : State) : Result := .next (s.sclReset.afterBit 0x05 0x08)

/-- RBIT_SCL_HIGH (R154): SDA becomes an input at the first bit of a byte, and the sample is taken before
SCL rises. -/
def execRbitSclHigh (s : State) : Result :=
  andThen (if s.bitIndex = 7 then s.sdaSetDirection .input else s).sdaSample fun (level, t) =>
    .next ({ t with sampledBit := level }.sclSet.goto 0x0B)

/-- RBIT_SCL_LOW (R155). -/
def execRbitSclLow (s : State) : Result :=
  .next ({ s.sclReset with activeByte := s.accumulated }.afterBit 0x0A 0x0C)

end Sys2Proof.Machine
end

