-- ==== Sys2Proof/Machine/Dispatch.lean ====
section
/-!
DEFINITION. The one dispatch: an arm per instruction, each a direct call of its meaning.
-/

namespace Sys2Proof.Machine

def exec (i : Instr) (s : State) : Host.Outcome State Fault Refusal :=
  match i with
  | .init => Sys2Proof.Machine.execInit s
  | .setAddress addr => Sys2Proof.Machine.execSetAddress addr s
  | .setFrame frame => Sys2Proof.Machine.execSetFrame frame s
  | .write base size => Sys2Proof.Machine.execWrite base size s
  | .read base size => Sys2Proof.Machine.execRead base size s
  | .stopWrite => Sys2Proof.Machine.execStopWrite s
  | .stopRead => Sys2Proof.Machine.execStopRead s
  | .setFrequency hz => Sys2Proof.Machine.execSetFrequency hz s
  | .idle => Sys2Proof.Machine.execIdle s
  | .startSdaLow => Sys2Proof.Machine.execStartSdaLow s
  | .startSclLow => Sys2Proof.Machine.execStartSclLow s
  | .restartSdaHigh => Sys2Proof.Machine.execRestartSdaHigh s
  | .restartSclHigh => Sys2Proof.Machine.execRestartSclHigh s
  | .wbitSda => Sys2Proof.Machine.execWbitSda s
  | .wbitSclHigh => Sys2Proof.Machine.execWbitSclHigh s
  | .wbitSclLow => Sys2Proof.Machine.execWbitSclLow s
  | .cackSclHigh => Sys2Proof.Machine.execCackSclHigh s
  | .cackSclLow => Sys2Proof.Machine.execCackSclLow s
  | .rbitSclHigh => Sys2Proof.Machine.execRbitSclHigh s
  | .rbitSclLow => Sys2Proof.Machine.execRbitSclLow s
  | .sackSda => Sys2Proof.Machine.execSackSda s
  | .sackSclHigh => Sys2Proof.Machine.execSackSclHigh s
  | .sackSclLow => Sys2Proof.Machine.execSackSclLow s
  | .stopSdaLow => Sys2Proof.Machine.execStopSdaLow s
  | .stopSclHigh => Sys2Proof.Machine.execStopSclHigh s
  | .stopSdaHigh => Sys2Proof.Machine.execStopSdaHigh s

end Sys2Proof.Machine
end

