-- ==== Sys2Proof/Machine/Fetch.lean ====
section
/-!
DEFINITION. Which transition comes next (R111, R112) and what it runs: the head of the host's moves
through the command port's decoder, the step a timer fire runs, or waiting.
-/

namespace Sys2Proof.Machine

/-- What the next transition is. -/
inductive Fetched where
  /-- Run `i` on `s`. -/
  | run (i : Instr) (s : State)
  /-- A move of the host that runs no instruction: a store to its own buffer space. -/
  | stored (s : State)
  | fault (f : Fault)
  | refused (r : Refusal)
deriving DecidableEq, Repr

/-- A timer fire (R112): the timer is disarmed and the rule of the step register runs. A fire at IDLE or
at a reserved code raises UNREACHABLE_STEP, and a fault changes nothing but `faults` (R42, log entry 7). -/
def fetchFire (s : State) : Fetched :=
  match stepOfCode s.step with
  | none | some .idle => .fault (s.raise .unreachableStep)
  | some i => .run i { s with timerArmed := false }

/-- A host move (R111): a triple goes through the decoder (R94); a store is a move only where the byte is
in `BUF` and no transaction is in flight (R70, R71, R263, log entry 9). -/
def fetchHost (act : HostAct) (s : State) : Fetched :=
  match act with
  | .command c =>
    match decodeCommand s.widths c with
    | .instr i => .run i s
    | .refused r => .refused (s.refuse r)
    | .notATriple | .reservedStep => .refused .notATriple
  | .store addr v =>
    if s.hostMayStore addr then .stored { s with buf := Memory.write s.buf addr v }
    else .refused (.noHostMove addr)

/-- Nothing is enabled: the engine waits in IDLE (R120, log entry 13); in any other step it is stuck (R9). -/
def fetchWait (s : State) : Fetched :=
  if s.busy then .fault .stuck else .run .idle s

/-- The host's moves after one more fire. -/
def fireCounted : List HostMove → List HostMove
  | [] => []
  | m :: ms => { m with afterFires := m.afterFires - 1 } :: ms

/-- The host moves next: it has a move pending, and either the timer is disarmed or no fire comes before
the move (R111, log entry 5). -/
def State.hostFirst (s : State) : Bool :=
  match s.hostMoves with
  | [] => false
  | m :: _ => !s.timerArmed || decide (m.afterFires = 0)

/-- The next transition (R111): the host's, or a fire if the timer is armed (R112), or waiting. -/
def fetch (s : State) : Fetched :=
  match s.hostFirst, s.hostMoves with
  | true, m :: ms => fetchHost m.act { s with hostMoves := ms }
  | _, ms => if s.timerArmed then fetchFire { s with hostMoves := fireCounted ms } else fetchWait s

/-- Place an encoding where the next transition takes it from: a triple is the host's next move, and a
step code goes to the step register with the timer armed (disarmed for IDLE, which no fire runs) and no
host move before it (log entry 8). -/
def State.placeEncoding (s : State) : Encoding → State
  | .command c => { s with hostMoves := { afterFires := 0, act := .command c } :: s.hostMoves }
  | .step code => { s with step := code, timerArmed := decide (code ≠ 0x00), hostMoves := [] }

end Sys2Proof.Machine
end

