-- ==== Sys2Proof/Machine/Step.lean ====
section
/-!
DEFINITION. One transition of the machine (R111), and where an instruction word is placed to run next.
-/

namespace Sys2Proof.Machine

/-- One transition: fetch it and run it. -/
def step (s : State) : Host.Outcome State Fault Refusal :=
  match fetch s with
  | .run i t => exec i t
  | .stored t => .next t
  | .fault f => .fault f
  | .refused r => .refused r

/-- `s` with the instruction of an opcode-table word placed to run at the next step (log entries 3, 8). -/
def State.withFetchWord (s : State) (nbits w : Nat) : State := s.placeEncoding (tableEncoding nbits w)

end Sys2Proof.Machine
end

