-- ==== Sys2Proof/Safety.lean ====
section
/-!
DEFINITION. What claims are stated in: the invariant of the machine, what a stop may be in a state that
has it, and the pin-call sequences of the phases (R202, R273).
-/

namespace Sys2Proof.Machine

/-- The byte of `BUF` at an address. -/
def State.byteAt (s : State) (addr : Nat) : Byte := Memory.read s.buf addr

/-- `t` is `s` with one mark added: nothing else changes, and no other mark is added or removed (R42). -/
def State.MarkedBy (s t : State) (m : Mark) : Prop :=
  t = { s with faults := t.faults } ∧ ∀ x, x ∈ t.faults ↔ x ∈ s.faults ∨ x = m

/-- A successful end of a run: no transaction is in flight and nothing was marked (R9, R42). -/
def State.endsWell (s : State) : Bool := !s.busy && s.faults.isEmpty

/-! The invariant: R40(a) to (c), R41, R68, R117 and the derived corner cases of the step rules. -/

/-- The cursor and the buffer (R25, R41(d), R68): `dataIndex` is at most `dataSize`, a size is `SW` bits,
and the buffer lies inside `BUF`; without a buffer the size is 0. -/
def State.cursorOk (s : State) : Bool :=
  decide (s.dataIndex ≤ s.dataSize) && decide (s.dataSize < 2 ^ s.widths.sw) &&
    match s.data with
    | none => decide (s.dataSize = 0)
    | some d => decide (d + s.dataSize ≤ 2 ^ s.widths.aw)

/-- SDA drives open-drain. -/
def State.sdaDrives (s : State) : Bool := decide (s.sda.dir = .outputOpenDrain)

/-- SDA is released for a sample (R117). -/
def State.sdaListens (s : State) : Bool := decide (s.sda.dir = .input)

/-- The address phase (R26, R40(b), R85): the byte is the address byte of the transaction's direction,
and no payload byte has been counted. -/
def State.addressPhase (s : State) : Bool :=
  s.writingAddress && decide (s.dataIndex = 0) &&
    decide (s.activeByte = addressByte s.cfgAddress (!s.lastOperationWasWrite))

/-- The byte on the line is transmitted: the address byte, or payload byte `dataIndex` of a write (R179). -/
def State.transmits (s : State) : Bool :=
  !s.acknowledgeError && (s.addressPhase || (!s.writingAddress && s.lastOperationWasWrite && s.bytesPending))

/-- The byte on the line is payload byte `dataIndex` of a read (R179). -/
def State.receives (s : State) : Bool :=
  !s.acknowledgeError && !s.writingAddress && !s.lastOperationWasWrite && s.bytesPending

/-- A Stop is under way (R40(c)): the frame asks for one, or a NACK forced it. -/
def State.stops (s : State) : Bool :=
  !s.writingAddress && (endsWithStop s.lastFrame || s.acknowledgeError)

/-- What holds while `i` is in the step register. -/
def stepContext (i : Instr) (s : State) : Bool :=
  match i with
  | .idle => !s.writingAddress && s.sdaDrives && (s.scl.latch || !endsWithStop s.lastFrame)
  | .startSdaLow | .startSclLow =>
    s.addressPhase && !s.acknowledgeError && decide (s.bitIndex = 7) && s.sdaDrives
  | .restartSdaHigh | .restartSclHigh =>
    s.addressPhase && !s.acknowledgeError && decide (s.bitIndex = 7) && s.sdaDrives &&
      !s.lastOperationWasWrite
  | .wbitSda | .wbitSclHigh => s.transmits && s.sdaDrives
  | .wbitSclLow => s.transmits && s.sdaDrives && s.scl.latch
  | .cackSclHigh => s.transmits && s.sdaDrives && !s.scl.latch
  | .cackSclLow => s.transmits && s.sdaListens && s.scl.latch
  | .rbitSclHigh => s.receives && (if s.bitIndex = 7 then s.sdaDrives else s.sdaListens)
  | .rbitSclLow => s.receives && s.sdaListens && s.scl.latch
  | .sackSda => s.receives && s.sdaListens && !s.scl.latch
  | .sackSclHigh => s.receives && s.sdaDrives && !s.scl.latch
  | .sackSclLow => s.receives && s.sdaDrives && s.scl.latch
  | .stopSdaLow => s.stops && s.sdaDrives && !s.scl.latch
  | .stopSclHigh => s.stops && s.sdaDrives && !s.scl.latch && !s.sda.latch
  | .stopSdaHigh => s.stops && s.sdaDrives && s.scl.latch && !s.sda.latch
  | .init | .setAddress _ | .setFrame _ | .write _ _ | .read _ _ => false
  | .stopWrite | .stopRead | .setFrequency _ => false

/-- The step register holds a step code of R88, and what belongs to that step holds. -/
def State.contextOk (s : State) : Bool :=
  match stepOfCode s.step with
  | some i => stepContext i s
  | none => false

/-- The invariant of the machine, for states between two transitions. -/
abbrev State.Inv (s : State) : Prop :=
  s.widths.wf ∧ Memory.wf s.widths.aw s.buf = true ∧ s.cursorOk = true ∧
    s.timerArmed = s.busy ∧ s.scl.dir = .outputOpenDrain ∧ s.contextOk = true

/-- The stops the spec itself gives a step (R233, R234), and those the model keeps for a host move that
does not exist (R71, R80). -/
def stopIsTheHosts : Result → Bool
  | .next _ => true
  | .fault (.raised .busyCommand _) => true
  | .fault (.raised .emptyDirectTransfer _) => true
  | .fault (.raised .unreachableStep _) => false
  | .fault .nullBuffer => false
  | .fault (.noSuchByte _) => false
  | .fault .contention => false
  | .fault .stuck => false
  | .refused (.port _ _) => true
  | .refused .notATriple => true
  | .refused (.noHostMove _) => true
  | .refused _ => false

/-! Pin-call sequences. -/

/-- A level operation: `set()` or `reset()` on SDA or SCL (R113). -/
def PinCall.isLevel : PinCall → Bool
  | .sda .set | .sda .reset | .scl .set | .scl .reset => true
  | .sda (.setDirection _) | .sda (.state _) | .scl (.setDirection _) | .scl (.state _) => false
  | .timerStart | .timerStop => false

/-- The calls of a Start (R131, R132). -/
def startCalls : List PinCall := [.sda .reset, .timerStart, .scl .reset, .timerStart]

/-- The calls of one transmitted bit (R151 to R153). -/
def sentBitCalls (bit : Bool) : List PinCall :=
  [if bit then .sda .set else .sda .reset, .timerStart, .scl .set, .timerStart, .scl .reset, .timerStart]

/-- The calls of one transmitted byte, bit 7 first (R63, R156). -/
def sentByteCalls (b : Byte) : List PinCall :=
  [7, 6, 5, 4, 3, 2, 1, 0].flatMap fun i => sentBitCalls (b.getLsbD i)

/-- The calls of a check-acknowledge that samples `level`, up to FinishAck (R171, R172). -/
def checkCalls (level : Bool) : List PinCall :=
  [.sda (.setDirection .input), .scl .set, .timerStart, .sda (.state level), .scl .reset,
    .sda (.setDirection .outputOpenDrain)]

/-- The calls of a Stop (R135 to R137). -/
def stopCalls : List PinCall := [.sda .reset, .timerStart, .scl .set, .timerStart, .sda .set]

/-- The calls of a transmitted byte that is acknowledged, with the `timer.start()` of what follows. -/
def ackedByteCalls (b : Byte) : List PinCall := sentByteCalls b ++ checkCalls false ++ [.timerStart]

end Sys2Proof.Machine
end

