-- ==== Sys2Proof/Certificates/Slice0/Obligations.lean ====
section
/-!
DEFINITION. The statements for the provers. Each cites the rules of spec/ it formalises; where a rule
carries a mark "[decision: see 92_eei_decisions.md D<n>]" the docstring names the decision.
-/

open Sys2Proof Sys2Proof.Machine

/-! ## Reset -/

/-- The table of R44, field by field. R44 is marked as derived and its values as the spec's own choice
(D26), so this is no rule of the source; the widths, the empty buffer space and the empty inputs are the
model's (log entries 1, 4, 5, 6) and are not part of the statement. -/
def Obligations.ResetHoldsTheValuesOfTheResetTable : Prop :=
  let r := State.reset
  r.activeByte = 0x00 ∧ r.bitIndex = 7 ∧ r.data = none ∧ r.dataSize = 0 ∧ r.dataIndex = 0 ∧
  r.writingAddress = false ∧ r.lastFrame = .firstAndLast ∧ r.lastOperationWasWrite = false ∧
  r.acknowledgeBit = false ∧ r.acknowledgeError = false ∧ stepOfCode r.step = some .idle ∧
  r.sampledBit = false ∧ r.cfgAddress = 0x00 ∧ r.cfgFrame = .firstAndLast ∧
  r.sda = { dir := .outputOpenDrain, latch := true } ∧
  r.scl = { dir := .outputOpenDrain, latch := true } ∧ r.timerArmed = false ∧ r.busy = false ∧
  r.faults = [] ∧ r.signalLog = [] ∧
  r.pinCallLog = [.timerStop, .scl .set, .sda .set, .scl (.setDirection .outputOpenDrain),
    .sda (.setDirection .outputOpenDrain)]

/-- R260: the reset performs InitBus (R200) and sets the two configuration registers; from empty logs and
an empty `faults` set it gives the state every run starts in (decisions D26, D53). -/
def Obligations.HardResetPerformsInitBusAndSetsTheConfiguration : Prop :=
  (∀ s : State, s.hardReset = { s with
    activeByte := 0, bitIndex := 7, sampledBit := false, data := none, dataSize := 0, dataIndex := 0,
    writingAddress := false, acknowledgeBit := false, acknowledgeError := false,
    lastFrame := .firstAndLast, lastOperationWasWrite := false, step := 0x00,
    cfgAddress := 0x00, cfgFrame := .firstAndLast, timerArmed := false,
    sda := { dir := .outputOpenDrain, latch := true }, scl := { dir := .outputOpenDrain, latch := true },
    pinCallLog := s.pinCallLog ++ [.timerStop, .scl .set, .sda .set,
      .scl (.setDirection .outputOpenDrain), .sda (.setDirection .outputOpenDrain)] }) ∧
  (∀ s : State, s.faults = [] → s.signalLog = [] → s.pinCallLog = [] →
    s.hardReset = { State.reset with
      widths := s.widths, buf := s.buf, hostMoves := s.hostMoves, envDraws := s.envDraws,
      samplesTaken := s.samplesTaken })

/-! ## Encodings -/

/-- R88: the 18 step codes, and that the codes 0x12 to 0x1F name no step (decisions D2, D21). -/
def Obligations.StepCodesNameTheirSteps : Prop :=
  stepOfCode 0x00 = some .idle ∧ stepOfCode 0x01 = some .startSdaLow ∧
  stepOfCode 0x02 = some .startSclLow ∧ stepOfCode 0x03 = some .restartSdaHigh ∧
  stepOfCode 0x04 = some .restartSclHigh ∧ stepOfCode 0x05 = some .wbitSda ∧
  stepOfCode 0x06 = some .wbitSclHigh ∧ stepOfCode 0x07 = some .wbitSclLow ∧
  stepOfCode 0x08 = some .cackSclHigh ∧ stepOfCode 0x09 = some .cackSclLow ∧
  stepOfCode 0x0A = some .rbitSclHigh ∧ stepOfCode 0x0B = some .rbitSclLow ∧
  stepOfCode 0x0C = some .sackSda ∧ stepOfCode 0x0D = some .sackSclHigh ∧
  stepOfCode 0x0E = some .sackSclLow ∧ stepOfCode 0x0F = some .stopSdaLow ∧
  stepOfCode 0x10 = some .stopSclHigh ∧ stepOfCode 0x11 = some .stopSdaHigh ∧
  ∀ code : StepCode, 0x12 ≤ code.toNat → stepOfCode code = none

/-- R83 and R94: what the port answers to every triple with a defined opcode, the checks in their
order (decisions D16, D17, D18, D29). -/
def Obligations.PortChecksItsOperandsInOrder : Prop :=
  ∀ (p : Config.Widths) (a : BitVec 32) (b : Nat), b < 2 ^ p.sw →
    (decodeCommand p ⟨0x1, a, b⟩ =
      if a.toNat = 0 ∧ b = 0 then .instr .init else .refused .operandNonzero) ∧
    (decodeCommand p ⟨0x2, a, b⟩ =
      if 0x7F < a.toNat then .refused .operandRange
      else if b ≠ 0 then .refused .operandNonzero else .instr (.setAddress (BitVec.ofNat 7 a.toNat))) ∧
    (3 < a.toNat → decodeCommand p ⟨0x3, a, b⟩ = .refused .operandRange) ∧
    (∀ f : Frame, a.toNat = f.code.toNat →
      decodeCommand p ⟨0x3, a, b⟩ =
        if b ≠ 0 then .refused .operandNonzero else .instr (.setFrame f)) ∧
    (decodeCommand p ⟨0x4, a, b⟩ =
      if 2 ^ p.aw < a.toNat + b then .refused .bufferRange else .instr (.write a b)) ∧
    (decodeCommand p ⟨0x5, a, b⟩ =
      if 2 ^ p.aw < a.toNat + b then .refused .bufferRange else .instr (.read a b)) ∧
    (decodeCommand p ⟨0x6, a, b⟩ =
      if a.toNat = 0 ∧ b = 0 then .instr .stopWrite else .refused .operandNonzero) ∧
    (decodeCommand p ⟨0x7, a, b⟩ =
      if a.toNat = 0 ∧ b = 0 then .instr .stopRead else .refused .operandNonzero) ∧
    (decodeCommand p ⟨0x8, a, b⟩ =
      if b ≠ 0 then .refused .operandNonzero else .instr (.setFrequency a)) ∧
    (∀ op : BitVec 4, op.toNat = 0 ∨ 9 ≤ op.toNat →
      decodeCommand p ⟨op, a, b⟩ = .refused .reservedOpcode)

/-- R82: a reserved opcode on the port is refused, and nothing but the mark changes (decision D45). The
move itself is taken off the list of pending moves, which is the model's field (log entry 5). -/
def Obligations.ReservedOpcodesAreRefusedAndChangeNothing : Prop :=
  ∀ (s : State) (c : Command) (n : Nat) (ms : List HostMove),
    s.hostMoves = { afterFires := n, act := .command c } :: ms → (s.timerArmed = false ∨ n = 0) →
    c.b < 2 ^ s.widths.sw → (c.op.toNat = 0 ∨ 9 ≤ c.op.toNat) →
    ∃ t, State.MarkedBy { s with hostMoves := ms } t (.refusal .reservedOpcode) ∧
      step s = .refused (.port .reservedOpcode t)

/-- Decoding an encoded well-formed instruction gives it back, for all 26 instructions, every operand and
every choice of the widths. -/
def Obligations.DecodingAnEncodedInstructionGivesItBack : Prop :=
  ∀ (p : Config.Widths) (i : Instr), i.wf p = true → decode p (encode i) = .instr i

/-- Each triple and each step code has at most one reading: encoding what was decoded gives the same bits,
and what was decoded is well-formed. -/
def Obligations.EncodingADecodedInstructionGivesTheBitsBack : Prop :=
  ∀ (p : Config.Widths) (e : Encoding) (i : Instr),
    decode p e = .instr i → encode i = e ∧ i.wf p = true

/-- Words written out from R80, R81 and the vectors T4 to T20 of spec/95_test_vectors.md, and the table
numbering of log entry 3: one of every family. -/
def Obligations.WrittenOutWordsDecode : Prop :=
  decodeCommand ⟨16, 16⟩ ⟨0x1, 0x00000000, 0x0000⟩ = .instr .init ∧
  decodeCommand ⟨16, 16⟩ ⟨0x2, 0x0000007F, 0x0000⟩ = .instr (.setAddress 0x7F) ∧
  decodeCommand ⟨16, 16⟩ ⟨0x3, 0x00000003, 0x0000⟩ = .instr (.setFrame .firstAndLast) ∧
  decodeCommand ⟨16, 16⟩ ⟨0x4, 0x0000FFFE, 0x0002⟩ = .instr (.write 0xFFFE 2) ∧
  decodeCommand ⟨16, 16⟩ ⟨0x5, 0x00010000, 0x0000⟩ = .instr (.read 0x10000 0) ∧
  decodeCommand ⟨16, 16⟩ ⟨0x8, 0xFFFFFFFF, 0x0000⟩ = .instr (.setFrequency 0xFFFFFFFF) ∧
  decodeTableWord 52 (0x0002 * 2 ^ 36 + 0x00000100 * 2 ^ 4 + 0x4) = some (.write 0x100 2) ∧
  decodeTableWord 5 0x02 = some .startSclLow ∧ decodeTableWord 5 0x07 = some .wbitSclLow ∧
  decodeTableWord 5 0x0A = some .rbitSclHigh ∧ decodeTableWord 5 0x09 = some .cackSclLow ∧
  decodeTableWord 8 0x11 = some .stopSdaHigh

/-- R85: the address bits above the direction bit, with the rule's worked values. -/
def Obligations.AddressByteIsAddressAndDirection : Prop :=
  (∀ (a : SlaveAddress) (rw : Bool),
    (addressByte a rw).toNat = 2 * a.toNat + (if rw then 1 else 0) ∧
    (addressByte a rw).getLsbD 0 = rw) ∧
  addressByte 0x50 false = 0xA0 ∧ addressByte 0x50 true = 0xA1 ∧ addressByte 0x7F false = 0xFE ∧
  addressByte 0x7F true = 0xFF ∧ addressByte 0x00 false = 0x00

/-! ## Transitions -/

/-- A command at the port that decodes to an instruction runs as exactly that instruction (R111(a), R190);
the move is taken off the list, which is the model's field (log entry 5). -/
def Obligations.StepRunsTheDecodedCommand : Prop :=
  ∀ (s : State) (c : Command) (n : Nat) (ms : List HostMove) (i : Instr),
    s.hostMoves = { afterFires := n, act := .command c } :: ms → (s.timerArmed = false ∨ n = 0) →
    decodeCommand s.widths c = .instr i → step s = exec i { s with hostMoves := ms }

/-- R112: a fire is taken when the timer is armed and no host move comes before it; it disarms the timer
and runs the step register's step, and at IDLE or a reserved code it raises UNREACHABLE_STEP. The rule's
order of that fault and of `timerArmed <- 0` is log entry 7's, and this statement speaks of its mark only. The
counting of the fires before a host move is the
model's (log entry 5). With the timer disarmed no step but IDLE runs. -/
def Obligations.FireRunsTheStepInTheStepRegister : Prop :=
  (∀ (s : State) (i : Instr), s.timerArmed = true →
    (∀ m ms, s.hostMoves = m :: ms → m.afterFires ≠ 0) →
    stepOfCode s.step = some i → i ≠ .idle →
    step s = exec i { s with timerArmed := false, hostMoves := fireCounted s.hostMoves }) ∧
  (∀ s : State, s.timerArmed = true → (∀ m ms, s.hostMoves = m :: ms → m.afterFires ≠ 0) →
    (s.step = 0x00 ∨ 0x12 ≤ s.step.toNat) →
    ∃ t, step s = .fault (.raised .unreachableStep t) ∧
      ∀ x, x ∈ t.faults ↔ x ∈ s.faults ∨ x = .fault .unreachableStep) ∧
  (∀ (s : State) (i : Instr) (t : State), s.timerArmed = false → fetch s = .run i t →
    i.isStep = true → i = .idle)

/-- R120: IDLE executes nothing. That the wait for a command is a step that answers the same state (the second
clause) is the model's, log entry 13; that no fire is enabled at IDLE (the third, in states with the invariant)
the spec marks as derived from R41(a). -/
def Obligations.IdleExecutesNothing : Prop :=
  (∀ s : State, exec .idle s = .next s) ∧
  (∀ s : State, s.step = 0x00 → s.timerArmed = false → s.hostMoves = [] → step s = .next s) ∧
  (∀ s : State, s.Inv → s.step = 0x00 → s.timerArmed = false)

/-- R111: a command and a fire that are both possible can go in either order (decision D38). The order
stands in the model's list of host moves (log entry 5): both are states. -/
def Obligations.CommandAndFireGoInEitherOrder : Prop :=
  ∀ (s : State) (c : Command) (ms : List HostMove) (j i : Instr), s.timerArmed = true →
    stepOfCode s.step = some i → i ≠ .idle → decodeCommand s.widths c = .instr j →
    step { s with hostMoves := { afterFires := 0, act := .command c } :: ms }
      = exec j { s with hostMoves := ms } ∧
    ∀ n, step { s with hostMoves := { afterFires := n + 1, act := .command c } :: ms }
      = exec i { s with timerArmed := false, hostMoves := { afterFires := n, act := .command c } :: ms }

/-- The model's host store (log entry 9), which R70, R71 and R263 bound: with no transaction in flight it
writes one byte of `BUF`; while one is, the host has no move that touches `BUF`, inside the buffer in flight or
outside it. -/
def Obligations.HostStoresOnlyWhileNoTransactionIsInFlight : Prop :=
  ∀ (s : State) (addr n : Nat) (v : Byte) (ms : List HostMove),
    Memory.wf s.widths.aw s.buf = true →
    s.hostMoves = { afterFires := n, act := .store addr v } :: ms → (s.timerArmed = false ∨ n = 0) →
    (addr < 2 ^ s.widths.aw → s.step = 0x00 →
      ∃ m, step s = .next { s with buf := m, hostMoves := ms } ∧ Memory.read m addr = v ∧
        ∀ other, other ≠ addr → Memory.read m other = s.byteAt other) ∧
    (2 ^ s.widths.aw ≤ addr ∨ s.step ≠ 0x00 →
      step s = .refused (.noHostMove addr))

/-! ## Condition generator -/

/-- R131 and R132: the two Start steps, their codes, calls, successors and everything they leave alone.
While SDA is an output the first pulls SDA low and leaves SCL's wire as it was: a START exactly where SCL
is high. -/
def Obligations.StartPullsSdaLowThenSclLow : Prop :=
  ∀ s : State,
    (exec .startSdaLow s = .next { s with
      sda := { s.sda with latch := false }, step := 0x02, timerArmed := true,
      pinCallLog := s.pinCallLog ++ [.sda .reset, .timerStart] }) ∧
    (exec .startSclLow s = .next { s with
      scl := { s.scl with latch := false }, step := 0x05, timerArmed := true,
      pinCallLog := s.pinCallLog ++ [.scl .reset, .timerStart] }) ∧
    encode .startSdaLow = .step 0x01 ∧ encode .startSclLow = .step 0x02 ∧
    (∀ t, exec .startSdaLow s = .next t → s.sda.dir = .outputOpenDrain →
      t.sclWire = s.sclWire ∧ ∀ envLow, t.sdaWire envLow = false)

/-- R133 and R134: the two Restart steps; the second hands over to the Start. -/
def Obligations.RestartReleasesSdaThenScl : Prop :=
  ∀ s : State,
    (exec .restartSdaHigh s = .next { s with
      sda := { s.sda with latch := true }, step := 0x04, timerArmed := true,
      pinCallLog := s.pinCallLog ++ [.sda .set, .timerStart] }) ∧
    (exec .restartSclHigh s = .next { s with
      scl := { s.scl with latch := true }, step := 0x01, timerArmed := true,
      pinCallLog := s.pinCallLog ++ [.scl .set, .timerStart] }) ∧
    encode .restartSdaHigh = .step 0x03 ∧ encode .restartSclHigh = .step 0x04 ∧
    (s.sda.latch = true → ∀ t envLow, exec .restartSdaHigh s = .next t →
      t.sclWire = s.sclWire ∧ t.sdaWire envLow = s.sdaWire envLow)

/-- R135 and R136: the first two Stop steps (decision D5). -/
def Obligations.StopPullsSdaLowThenRaisesScl : Prop :=
  ∀ s : State,
    (exec .stopSdaLow s = .next { s with
      sda := { s.sda with latch := false }, step := 0x10, timerArmed := true,
      pinCallLog := s.pinCallLog ++ [.sda .reset, .timerStart] }) ∧
    (exec .stopSclHigh s = .next { s with
      scl := { s.scl with latch := true }, step := 0x11, timerArmed := true,
      pinCallLog := s.pinCallLog ++ [.scl .set, .timerStart] }) ∧
    encode .stopSdaLow = .step 0x0F ∧ encode .stopSclHigh = .step 0x10

/-- R137, R138 and R139: the last Stop step releases SDA, clears the buffer pointers and reports the
transaction in the same fire; it arms no timer (decisions D5, D34, D50). -/
def Obligations.StopSdaHighReleasesSdaAndReports : Prop :=
  ∀ s : State,
    exec .stopSdaHigh s = .next { s with
      sda := { s.sda with latch := true }, data := none, dataSize := 0, dataIndex := 0, step := 0x00,
      pinCallLog := s.pinCallLog ++ [.sda .set],
      signalLog := s.signalLog ++
        [if s.acknowledgeError = true then .error .nack
         else if s.lastOperationWasWrite = true then .dataWritten else .dataAvailable] } ∧
    encode .stopSdaHigh = .step 0x11

/-! ## Byte shifter -/

/-- R151: the line carries bit `bitIndex` of `activeByte`. -/
def Obligations.WbitSdaDrivesTheCurrentBit : Prop :=
  ∀ s : State,
    exec .wbitSda s = .next { s with
      sda := { s.sda with latch := s.activeByte.getLsbD s.bitIndex.toNat }, step := 0x06,
      timerArmed := true,
      pinCallLog := s.pinCallLog ++
        [if s.activeByte.getLsbD s.bitIndex.toNat = true then .sda .set else .sda .reset,
          .timerStart] } ∧
    encode .wbitSda = .step 0x05

/-- R152 and R153: the clock of a transmitted bit, and the bit count: after bit 0 the check-acknowledge
(decision D14). -/
def Obligations.WbitClocksTheBitAndCountsDown : Prop :=
  ∀ s : State,
    (exec .wbitSclHigh s = .next { s with
      scl := { s.scl with latch := true }, step := 0x07, timerArmed := true,
      pinCallLog := s.pinCallLog ++ [.scl .set, .timerStart] }) ∧
    (exec .wbitSclLow s = .next { s with
      scl := { s.scl with latch := false }, timerArmed := true,
      bitIndex := if s.bitIndex.toNat = 0 then 7 else BitVec.ofNat 3 (s.bitIndex.toNat - 1),
      step := if s.bitIndex.toNat = 0 then 0x08 else 0x05,
      pinCallLog := s.pinCallLog ++ [.scl .reset, .timerStart] }) ∧
    encode .wbitSclHigh = .step 0x06 ∧ encode .wbitSclLow = .step 0x07

/-- R154: the direction changes once per byte, the sample comes before SCL rises, and it is kept in
`sampledBit` (decisions D15, D32). The level is the wire's (R115) under this sample's draw (R117); a pin
that is push-pull has no meaning there (I15), and the engine never makes it so. -/
def Obligations.RbitSclHighSamplesBeforeSclRises : Prop :=
  ∀ s : State, (s.bitIndex = 7 ∨ s.sda.dir ≠ .outputPushPull) →
    let sda : Line := if s.bitIndex = 7 then { s.sda with dir := .input } else s.sda
    let level : Bool := !(s.envLowSda || (decide (sda.dir ≠ .input) && !sda.latch))
    exec .rbitSclHigh s = .next { s with
      sda := sda, scl := { s.scl with latch := true }, sampledBit := level, step := 0x0B,
      timerArmed := true, envDraws := s.envDraws.tail, samplesTaken := s.samplesTaken + 1,
      pinCallLog := s.pinCallLog ++ (if s.bitIndex = 7 then [.sda (.setDirection .input)] else []) ++
        [.sda (.state level), .scl .set, .timerStart] } ∧
    encode .rbitSclHigh = .step 0x0A

/-- R155: the sampled bit is ORed in at `bitIndex`, and after bit 0 the set-acknowledge follows (decision
D14). -/
def Obligations.RbitSclLowAccumulatesTheSampledBit : Prop :=
  ∀ s : State,
    exec .rbitSclLow s = .next { s with
      scl := { s.scl with latch := false }, timerArmed := true,
      activeByte := s.activeByte ||| BitVec.ofNat 8 ((if s.sampledBit then 1 else 0) * 2 ^ s.bitIndex.toNat),
      bitIndex := if s.bitIndex.toNat = 0 then 7 else BitVec.ofNat 3 (s.bitIndex.toNat - 1),
      step := if s.bitIndex.toNat = 0 then 0x0C else 0x0A,
      pinCallLog := s.pinCallLog ++ [.scl .reset, .timerStart] } ∧
    encode .rbitSclLow = .step 0x0B

/-- A transmitted byte takes 24 fires, and the pin calls carry its bits from bit 7 down to bit 0 (R63, R156,
which the spec marks as derived). -/
def Obligations.TransmittedByteIsShiftedMsbFirst : Prop :=
  ∀ s : State, s.step = 0x05 → s.bitIndex = 7 → s.timerArmed = true → s.hostMoves = [] →
    core.run 24 s = .next { s with
      step := 0x08, bitIndex := 7, scl := { s.scl with latch := false },
      sda := { s.sda with latch := s.activeByte.getLsbD 0 },
      pinCallLog := s.pinCallLog ++ sentByteCalls s.activeByte }

/-- A received byte takes 16 fires, and is the byte the environment presents, first bit 7 (R63, R156, which
the spec marks as derived), for every byte `b` and whatever comes after it. -/
def Obligations.ReceivedByteIsTheByteOnTheLine : Prop :=
  ∀ (s : State) (b : Byte) (rest : List Bool), s.step = 0x0A → s.bitIndex = 7 → s.activeByte = 0 →
    s.timerArmed = true → s.hostMoves = [] →
    s.envDraws = ([7, 6, 5, 4, 3, 2, 1, 0].map fun i => !b.getLsbD i) ++ rest →
    ∃ t, core.run 16 s = .next t ∧ t.activeByte = b ∧ t.step = 0x0C ∧ t.bitIndex = 7 ∧
      t.envDraws = rest ∧ t.buf = s.buf ∧ t.dataIndex = s.dataIndex ∧ t.signalLog = s.signalLog

/-! ## Acknowledge handler -/

/-- R171: SDA becomes an input and SCL rises. -/
def Obligations.CackSclHighReleasesSdaAndRaisesScl : Prop :=
  ∀ s : State,
    exec .cackSclHigh s = .next { s with
      sda := { s.sda with dir := .input }, scl := { s.scl with latch := true }, step := 0x09,
      timerArmed := true,
      pinCallLog := s.pinCallLog ++ [.sda (.setDirection .input), .scl .set, .timerStart] } ∧
    encode .cackSclHigh = .step 0x08

/-- The calls of CACK_SCL_LOW before FinishAck, and the registers it has written by then (R172). -/
def Sys2Proof.Machine.ackSampled (s : State) (level : Bool) : State := { s with
  acknowledgeBit := level, writingAddress := false,
  dataIndex := if s.writingAddress then s.dataIndex else s.dataIndex + 1,
  sda := { s.sda with dir := .outputOpenDrain }, scl := { s.scl with latch := false },
  envDraws := s.envDraws.tail, samplesTaken := s.samplesTaken + 1,
  pinCallLog := s.pinCallLog ++
    [.sda (.state level), .scl .reset, .sda (.setDirection .outputOpenDrain)] }

/-- R231's and R238's entry of the error path: a sampled NACK after any transmitted byte, the address byte of a write or a read or a
payload byte of a write, sets `acknowledgeError` and goes to STOP_SDA_LOW in every frame mode; the byte is
counted first (R172, R176, R177; decisions D4, D11, D13). -/
def Obligations.NackAfterATransmittedByteForcesAStop : Prop :=
  ∀ s : State, s.sda.dir ≠ .outputPushPull → s.sdaWire s.envLowSda = true →
    (s.writingAddress = true ∨ s.lastOperationWasWrite = true) →
    exec .cackSclLow s = .next { ackSampled s true with
      acknowledgeError := true, step := 0x0F, timerArmed := true,
      pinCallLog := (ackSampled s true).pinCallLog ++ [.timerStart] }

/-- R172, R176 and R177, the ACKed bytes of a write: the next payload byte is read from `data + dataIndex`;
after the last one a Stop for Last and FirstAndLast, else `dataWritten` at once with the bus held. -/
def Obligations.AckDuringAWriteGoesOnOrEnds : Prop :=
  ∀ s : State, s.sda.dir ≠ .outputPushPull → s.sdaWire s.envLowSda = false →
    s.lastOperationWasWrite = true →
    let t := ackSampled s false
    (∀ d, t.dataIndex < t.dataSize → s.data = some d → d + t.dataIndex < 2 ^ s.widths.aw →
      exec .cackSclLow s = .next { t with
        activeByte := s.byteAt (d + t.dataIndex), bitIndex := 7, step := 0x05, timerArmed := true,
        pinCallLog := t.pinCallLog ++ [.timerStart] }) ∧
    (t.dataSize ≤ t.dataIndex → (s.lastFrame = .last ∨ s.lastFrame = .firstAndLast) →
      exec .cackSclLow s = .next { t with
        step := 0x0F, timerArmed := true, pinCallLog := t.pinCallLog ++ [.timerStart] }) ∧
    (t.dataSize ≤ t.dataIndex → (s.lastFrame = .first ∨ s.lastFrame = .next) →
      exec .cackSclLow s = .next { t with
        step := 0x00, signalLog := s.signalLog ++ [.dataWritten] })

/-- R172, R176 and R177, the ACKed address byte of a read: the first received byte begins with `activeByte`
cleared (R150), or, with nothing to read, a Stop or `dataAvailable` at once. -/
def Obligations.AckOfAReadAddressStartsReceiving : Prop :=
  ∀ s : State, s.sda.dir ≠ .outputPushPull → s.sdaWire s.envLowSda = false →
    s.lastOperationWasWrite = false → s.writingAddress = true →
    let t := ackSampled s false
    (s.dataIndex < s.dataSize →
      exec .cackSclLow s = .next { t with
        activeByte := 0, bitIndex := 7, step := 0x0A, timerArmed := true,
        pinCallLog := t.pinCallLog ++ [.timerStart] }) ∧
    (s.dataSize ≤ s.dataIndex → (s.lastFrame = .last ∨ s.lastFrame = .firstAndLast) →
      exec .cackSclLow s = .next { t with
        step := 0x0F, timerArmed := true, pinCallLog := t.pinCallLog ++ [.timerStart] }) ∧
    (s.dataSize ≤ s.dataIndex → (s.lastFrame = .first ∨ s.lastFrame = .next) →
      exec .cackSclLow s = .next { t with
        step := 0x00, signalLog := s.signalLog ++ [.dataAvailable] })

/-- R173 and R174: ACK while more bytes of this call remain, else NACK by an explicit release; the frame is
not consulted (decisions D9, D10). -/
def Obligations.SackDrivesAckUntilTheLastByte : Prop :=
  ∀ s : State,
    (s.dataIndex + 1 < s.dataSize → exec .sackSda s = .next { s with
      sda := { dir := .outputOpenDrain, latch := false }, step := 0x0D, timerArmed := true,
      pinCallLog := s.pinCallLog ++ [.sda (.setDirection .outputOpenDrain), .sda .reset, .timerStart] }) ∧
    (s.dataSize ≤ s.dataIndex + 1 → exec .sackSda s = .next { s with
      sda := { dir := .outputOpenDrain, latch := true }, step := 0x0D, timerArmed := true,
      pinCallLog := s.pinCallLog ++ [.sda (.setDirection .outputOpenDrain), .sda .set, .timerStart] }) ∧
    (exec .sackSclHigh s = .next { s with
      scl := { s.scl with latch := true }, step := 0x0E, timerArmed := true,
      pinCallLog := s.pinCallLog ++ [.scl .set, .timerStart] }) ∧
    encode .sackSda = .step 0x0C ∧ encode .sackSclHigh = .step 0x0D

/-- R175, R176 and R177 after a received byte: it is stored at `data + dataIndex` and nowhere else, the
cursor advances, and the next byte, a Stop or `dataAvailable` follows. -/
def Obligations.SackSclLowStoresTheByteAndGoesOn : Prop :=
  ∀ (s : State) (d : Nat), Memory.wf s.widths.aw s.buf = true →
    s.writingAddress = false → s.lastOperationWasWrite = false →
    s.data = some d → d + s.dataIndex < 2 ^ s.widths.aw →
    ∃ m, Memory.read m (d + s.dataIndex) = s.activeByte ∧
      (∀ a, a ≠ d + s.dataIndex → Memory.read m a = s.byteAt a) ∧
      (s.dataIndex + 1 < s.dataSize → exec .sackSclLow s = .next { s with
        buf := m, dataIndex := s.dataIndex + 1, scl := { s.scl with latch := false }, activeByte := 0,
        bitIndex := 7, step := 0x0A, timerArmed := true,
        pinCallLog := s.pinCallLog ++ [.scl .reset, .timerStart] }) ∧
      (s.dataSize ≤ s.dataIndex + 1 → (s.lastFrame = .last ∨ s.lastFrame = .firstAndLast) →
        exec .sackSclLow s = .next { s with
          buf := m, dataIndex := s.dataIndex + 1, scl := { s.scl with latch := false }, step := 0x0F,
          timerArmed := true, pinCallLog := s.pinCallLog ++ [.scl .reset, .timerStart] }) ∧
      (s.dataSize ≤ s.dataIndex + 1 → (s.lastFrame = .first ∨ s.lastFrame = .next) →
        exec .sackSclLow s = .next { s with
          buf := m, dataIndex := s.dataIndex + 1, scl := { s.scl with latch := false }, step := 0x00,
          pinCallLog := s.pinCallLog ++ [.scl .reset], signalLog := s.signalLog ++ [.dataAvailable] })

/-- R178: a set-acknowledge neither reads nor writes `acknowledgeBit` and never sets `acknowledgeError`
(decision D12); and a read can fail only on its address byte, which the rule marks as derived. The second clause holds in states with the
invariant (its preservation is a statement of its own). -/
def Obligations.SetAcknowledgeIsNeverAnError : Prop :=
  (∀ (s t : State) (b : Bool), exec .sackSclLow s = .next t →
    t.acknowledgeBit = s.acknowledgeBit ∧ t.acknowledgeError = s.acknowledgeError ∧
    exec .sackSclLow { s with acknowledgeBit := b } = .next { t with acknowledgeBit := b }) ∧
  (∀ (s t : State), s.Inv → step s = .next t → s.lastOperationWasWrite = false →
    s.acknowledgeError = false → t.acknowledgeError = true → s.writingAddress = true)

/-! ## Commands -/

/-- R191 and R200: INIT performs InitBus in any state, keeps the configuration registers, emits nothing
(decisions D25, D34). -/
def Obligations.InitResetsTheBusInAnyState : Prop :=
  ∀ s : State, exec .init s = .next { s with
    activeByte := 0, bitIndex := 7, sampledBit := false, data := none, dataSize := 0, dataIndex := 0,
    writingAddress := false, acknowledgeBit := false, acknowledgeError := false,
    lastFrame := .firstAndLast, lastOperationWasWrite := false, step := 0x00, timerArmed := false,
    sda := { dir := .outputOpenDrain, latch := true }, scl := { dir := .outputOpenDrain, latch := true },
    pinCallLog := s.pinCallLog ++ [.timerStop, .scl .set, .sda .set,
      .scl (.setDirection .outputOpenDrain), .sda (.setDirection .outputOpenDrain)] }

/-- R192 and R193: the two configuration commands, idle and busy (decisions D16, D17, D22). -/
def Obligations.ConfigurationCommandsWriteTheirRegister : Prop :=
  ∀ (s : State) (a : SlaveAddress) (f : Frame),
    (s.step = 0x00 → exec (.setAddress a) s = .next { s with cfgAddress := a } ∧
      exec (.setFrame f) s = .next { s with cfgFrame := f }) ∧
    (s.step ≠ 0x00 → ∃ t, s.MarkedBy t (.fault .busyCommand) ∧
      exec (.setAddress a) s = .fault (.raised .busyCommand t) ∧
      exec (.setFrame f) s = .fault (.raised .busyCommand t))

/-- R194: WRITE. With First or FirstAndLast the address byte with direction 0 and a Start; with Next or Last
payload byte 0 at once; busy and the empty direct transfer fault (decisions D22, D31, D33, D49). -/
def Obligations.WriteBeginsItsTransfer : Prop :=
  ∀ (s : State) (base : BitVec 32) (size : Nat),
    (s.step = 0x00 → (s.cfgFrame = .first ∨ s.cfgFrame = .firstAndLast) →
      exec (.write base size) s = .next { s with
        data := some base.toNat, dataSize := size, dataIndex := 0, acknowledgeBit := false,
        acknowledgeError := false, lastFrame := s.cfgFrame, lastOperationWasWrite := true,
        writingAddress := true, activeByte := addressByte s.cfgAddress false, bitIndex := 7,
        step := 0x01, timerArmed := true, pinCallLog := s.pinCallLog ++ [.timerStart] }) ∧
    (s.step = 0x00 → (s.cfgFrame = .next ∨ s.cfgFrame = .last) → size ≠ 0 →
      base.toNat < 2 ^ s.widths.aw →
      exec (.write base size) s = .next { s with
        data := some base.toNat, dataSize := size, dataIndex := 0, acknowledgeBit := false,
        acknowledgeError := false, lastFrame := s.cfgFrame, lastOperationWasWrite := true,
        writingAddress := false, activeByte := s.byteAt base.toNat, bitIndex := 7,
        step := 0x05, timerArmed := true, pinCallLog := s.pinCallLog ++ [.timerStart] }) ∧
    (s.step = 0x00 → (s.cfgFrame = .next ∨ s.cfgFrame = .last) → size = 0 →
      ∃ t, s.MarkedBy t (.fault .emptyDirectTransfer) ∧
        exec (.write base size) s = .fault (.raised .emptyDirectTransfer t)) ∧
    (s.step ≠ 0x00 → ∃ t, s.MarkedBy t (.fault .busyCommand) ∧
      exec (.write base size) s = .fault (.raised .busyCommand t))

/-- R195: READ. A Start for First and FirstAndLast; else a Restart after a write with frame First or Next;
else receiving at once; busy and the empty direct transfer fault (decisions D22, D31, D33, D43, D49). -/
def Obligations.ReadBeginsItsTransfer : Prop :=
  ∀ (s : State) (base : BitVec 32) (size : Nat),
    let restart : Prop :=
      s.lastOperationWasWrite = true ∧ (s.lastFrame = .first ∨ s.lastFrame = .next)
    let begun : State := { s with
      data := some base.toNat, dataSize := size, dataIndex := 0, acknowledgeBit := false,
      acknowledgeError := false, lastFrame := s.cfgFrame, lastOperationWasWrite := false,
      bitIndex := 7, timerArmed := true, pinCallLog := s.pinCallLog ++ [.timerStart] }
    (s.step = 0x00 → (s.cfgFrame = .first ∨ s.cfgFrame = .firstAndLast) →
      exec (.read base size) s = .next { begun with
        writingAddress := true, activeByte := addressByte s.cfgAddress true, step := 0x01 }) ∧
    (s.step = 0x00 → (s.cfgFrame = .next ∨ s.cfgFrame = .last) → restart →
      exec (.read base size) s = .next { begun with
        writingAddress := true, activeByte := addressByte s.cfgAddress true, step := 0x03 }) ∧
    (s.step = 0x00 → (s.cfgFrame = .next ∨ s.cfgFrame = .last) → ¬restart → size ≠ 0 →
      exec (.read base size) s = .next { begun with
        writingAddress := false, activeByte := 0, step := 0x0A }) ∧
    (s.step = 0x00 → (s.cfgFrame = .next ∨ s.cfgFrame = .last) → ¬restart → size = 0 →
      ∃ t, s.MarkedBy t (.fault .emptyDirectTransfer) ∧
        exec (.read base size) s = .fault (.raised .emptyDirectTransfer t)) ∧
    (s.step ≠ 0x00 → ∃ t, s.MarkedBy t (.fault .busyCommand) ∧
      exec (.read base size) s = .fault (.raised .busyCommand t))

/-- What a cancelling STOP_WRITE or STOP_READ leaves: DeinitBus (R199), then InitBus (R200), then the
signal. -/
def Sys2Proof.Machine.cancelled (s : State) (sig : Signal) : State := { s with
  activeByte := 0, bitIndex := 7, sampledBit := false, data := none, dataSize := 0, dataIndex := 0,
  writingAddress := false, acknowledgeBit := false, acknowledgeError := false,
  lastFrame := .firstAndLast, lastOperationWasWrite := false, step := 0x00, timerArmed := false,
  sda := { dir := .outputOpenDrain, latch := true }, scl := { dir := .outputOpenDrain, latch := true },
  pinCallLog := s.pinCallLog ++ [.scl (.setDirection .input), .sda (.setDirection .input), .timerStop,
    .scl .set, .sda .set, .scl (.setDirection .outputOpenDrain), .sda (.setDirection .outputOpenDrain)],
  signalLog := s.signalLog ++ [sig] }

/-- R196, R197, R199 and R232: the stop commands cancel the transaction of their own direction at once, and
else emit their not-active error and change nothing (decisions D23, D24, D27). -/
def Obligations.StopCommandsCancelOrReport : Prop :=
  ∀ s : State,
    (s.step ≠ 0x00 → s.lastOperationWasWrite = true →
      exec .stopWrite s = .next (cancelled s .writeStopped)) ∧
    (s.step = 0x00 ∨ s.lastOperationWasWrite = false →
      exec .stopWrite s = .next { s with signalLog := s.signalLog ++ [.error .notWriting] }) ∧
    (s.step ≠ 0x00 → s.lastOperationWasWrite = false →
      exec .stopRead s = .next (cancelled s .readStopped)) ∧
    (s.step = 0x00 ∨ s.lastOperationWasWrite = true →
      exec .stopRead s = .next { s with signalLog := s.signalLog ++ [.error .notReading] })

/-- R198: SET_FREQUENCY is a no-op in every state (decision D36). -/
def Obligations.SetFrequencyChangesNothing : Prop :=
  ∀ (s : State) (hz : BitVec 32), exec (.setFrequency hz) s = .next s

/-- R190: which commands run while a transaction is in flight, and which commands make a pin or timer call
(decisions D22, D31). -/
def Obligations.CommandsWhileATransactionIsInFlight : Prop :=
  (∀ (i : Instr) (s t : State), i.isStep = false → exec i s = .next t →
    ((∃ b n, i = .write b n) ∨ (∃ b n, i = .read b n) → t.pinCallLog = s.pinCallLog ++ [.timerStart]) ∧
    (i = .init ∨ (∃ b n, i = .write b n) ∨ (∃ b n, i = .read b n) ∨
      (i = .stopWrite ∧ s.step ≠ 0x00 ∧ s.lastOperationWasWrite = true) ∨
      (i = .stopRead ∧ s.step ≠ 0x00 ∧ s.lastOperationWasWrite = false) ∨
      t.pinCallLog = s.pinCallLog)) ∧
  ∀ (s : State), s.step ≠ 0x00 →
    (∀ i : Instr, (∃ a, i = .setAddress a) ∨ (∃ f, i = .setFrame f) ∨ (∃ b n, i = .write b n) ∨
        (∃ b n, i = .read b n) →
      ∃ t, s.MarkedBy t (.fault .busyCommand) ∧ exec i s = .fault (.raised .busyCommand t)) ∧
    (∃ t, exec .init s = .next t ∧ t.signalLog = s.signalLog ∧ t.step = 0x00 ∧ t.timerArmed = false ∧
      t.data = none) ∧
    (exec .stopWrite s = .next (if s.lastOperationWasWrite = true then cancelled s .writeStopped
      else { s with signalLog := s.signalLog ++ [.error .notWriting] })) ∧
    (exec .stopRead s = .next (if s.lastOperationWasWrite = true then
        { s with signalLog := s.signalLog ++ [.error .notReading] }
      else cancelled s .readStopped)) ∧
    (∀ hz, exec (.setFrequency hz) s = .next s)

/-! ## What no instruction does -/

/-- R42: a transition that faults or refuses changes only the marks (and the model's list of pending moves,
log entry 5) and adds its own mark alone, no transition removes a mark, the reset procedure included, and a
marked state is no successful end (decision D46). That UNREACHABLE_STEP too leaves all but the marks, and so
`timerArmed`, is log entry 7: the model follows R42 against the order of R112. -/
def Obligations.MarksAreStickyAndNothingElseChanges : Prop :=
  (∀ (s t : State), step s = .next t → t.faults = s.faults) ∧
  (∀ (s t : State) (r : FaultReason), step s = .fault (.raised r t) →
    State.MarkedBy { s with hostMoves := t.hostMoves } t (.fault r)) ∧
  (∀ (s t : State) (r : RefusalReason), step s = .refused (.port r t) →
    State.MarkedBy { s with hostMoves := t.hostMoves } t (.refusal r)) ∧
  (∀ s : State, s.hardReset.faults = s.faults) ∧ State.reset.faults = [] ∧
  (∀ s : State, s.faults ≠ [] → s.endsWell = false)

/-- R43 and R121: the logs only grow, and a transition emits at most one signal (R121's count is marked as
derived). -/
def Obligations.LogsOnlyGrow : Prop :=
  (∀ (s t : State), step s = .next t →
    (∃ calls, t.pinCallLog = s.pinCallLog ++ calls) ∧
    (∃ sigs, t.signalLog = s.signalLog ++ sigs ∧ sigs.length ≤ 1)) ∧
  State.reset.signalLog = [] ∧
  State.reset.pinCallLog = [.timerStop, .scl .set, .sda .set, .scl (.setDirection .outputOpenDrain),
    .sda (.setDirection .outputOpenDrain)]

/-- R113, the step contract: at most one level operation, at most one access to `BUF` that writes (at the address
of the payload byte, and only in FinishAck of a received payload byte), and then either a successor with the timer started last, or IDLE with no `timer.start()` and at most one signal (decision
D2). IDLE itself is no step of the contract. -/
def Obligations.EveryStepMeetsTheStepContract : Prop :=
  ∀ (i : Instr) (s t : State), i.isStep = true → i ≠ .idle → exec i s = .next t →
    ∃ calls : List PinCall, calls.countP PinCall.isLevel ≤ 1 ∧ .timerStart ∉ calls ∧ .timerStop ∉ calls ∧
      (¬(i = .cackSclLow ∨ i = .sackSclLow) ∨ s.writingAddress = true ∨ s.lastOperationWasWrite = true →
        ∀ a, t.byteAt a = s.byteAt a) ∧
      (∀ a, s.payloadAddress = .next a → ∀ other, other ≠ a → t.byteAt other = s.byteAt other) ∧
      ((t.step ≠ 0x00 ∧ t.timerArmed = true ∧ t.pinCallLog = s.pinCallLog ++ calls ++ [.timerStart] ∧
          t.signalLog = s.signalLog) ∨
        (t.step = 0x00 ∧ t.timerArmed = s.timerArmed ∧ t.pinCallLog = s.pinCallLog ++ calls ∧
          ∃ sigs, t.signalLog = s.signalLog ++ sigs ∧ sigs.length ≤ 1))

/-- The successors of R119's table. -/
def Sys2Proof.Machine.successors : Instr → List Instr
  | .startSdaLow => [.startSclLow]
  | .startSclLow => [.wbitSda]
  | .restartSdaHigh => [.restartSclHigh]
  | .restartSclHigh => [.startSdaLow]
  | .wbitSda => [.wbitSclHigh]
  | .wbitSclHigh => [.wbitSclLow]
  | .wbitSclLow => [.wbitSda, .cackSclHigh]
  | .cackSclHigh => [.cackSclLow]
  | .cackSclLow => [.wbitSda, .rbitSclHigh, .stopSdaLow, .idle]
  | .rbitSclHigh => [.rbitSclLow]
  | .rbitSclLow => [.rbitSclHigh, .sackSda]
  | .sackSda => [.sackSclHigh]
  | .sackSclHigh => [.sackSclLow]
  | .sackSclLow => [.rbitSclHigh, .stopSdaLow, .idle]
  | .stopSdaLow => [.stopSclHigh]
  | .stopSclHigh => [.stopSdaHigh]
  | .stopSdaHigh => [.idle]
  | .idle => []
  | .init | .setAddress _ | .setFrame _ | .write _ _ | .read _ _ => []
  | .stopWrite | .stopRead | .setFrequency _ => []

/-- R119: a step's successor is one its row lists, and where commands enter the table and leave it. The
invariant is needed for SACK_SCL_LOW alone, which in a state that no run reaches (a write) could start a write
byte; the hypothesis on it is part of the invariant. -/
def Obligations.SuccessorsAreThoseOfTheDispatchTable : Prop :=
  (∀ (i : Instr) (s t : State), i.isStep = true → i ≠ .idle →
    (i = .sackSclLow → s.lastOperationWasWrite = false) → exec i s = .next t →
    ∃ j, stepOfCode t.step = some j ∧ j ∈ successors i) ∧
  (∀ (i : Instr) (s t : State), i.isStep = false → exec i s = .next t →
    ((∃ b n, i = .write b n) ∨ (∃ b n, i = .read b n) →
      ∃ j, stepOfCode t.step = some j ∧ j ∈ [.startSdaLow, .restartSdaHigh, .wbitSda, .rbitSclHigh]) ∧
    ((∀ b n, i ≠ .write b n) → (∀ b n, i ≠ .read b n) → t.step = s.step ∨ t.step = 0x00))

/-- R33 and R34: the configuration registers are written by their command alone (decisions D16, D26). -/
def Obligations.ConfigurationIsWrittenByItsCommandAlone : Prop :=
  (∀ (i : Instr) (s t : State), exec i s = .next t →
    ((∀ a, i ≠ .setAddress a) → t.cfgAddress = s.cfgAddress) ∧
    ((∀ f, i ≠ .setFrame f) → t.cfgFrame = s.cfgFrame) ∧
    (∀ a, i = .setAddress a → t.cfgAddress = a) ∧ (∀ f, i = .setFrame f → t.cfgFrame = f)) ∧
  (∀ s : State, s.initBus.cfgAddress = s.cfgAddress ∧ s.initBus.cfgFrame = s.cfgFrame) ∧
  State.reset.cfgAddress = 0x00 ∧ State.reset.cfgFrame = .firstAndLast

/-- R28: `lastOperationWasWrite` is written by WRITE (1), READ (0) and InitBus (0) alone; R27's `lastFrame`
likewise, with the frame in force (decision D34). -/
def Obligations.TransferDirectionAndFrameAreWrittenByWriteAndRead : Prop :=
  (∀ (i : Instr) (s t : State), exec i s = .next t →
    (∀ b n, i = .write b n → t.lastOperationWasWrite = true ∧ t.lastFrame = s.cfgFrame) ∧
    (∀ b n, i = .read b n → t.lastOperationWasWrite = false ∧ t.lastFrame = s.cfgFrame) ∧
    (i = .init → t.lastOperationWasWrite = false ∧ t.lastFrame = .firstAndLast) ∧
    ((∀ b n, i ≠ .write b n) → (∀ b n, i ≠ .read b n) → i ≠ .init →
      (t.lastOperationWasWrite = s.lastOperationWasWrite ∧ t.lastFrame = s.lastFrame) ∨
      ((i = .stopWrite ∨ i = .stopRead) ∧ s.step ≠ 0x00 ∧ t.lastOperationWasWrite = false ∧
        t.lastFrame = .firstAndLast))) ∧
  State.reset.lastOperationWasWrite = false ∧ State.reset.lastFrame = .firstAndLast

/-- R29 and R30: `acknowledgeBit` is written by CACK_SCL_LOW alone, `acknowledgeError` is set by it alone,
and both are cleared by WRITE, READ and InitBus alone (decision D33). -/
def Obligations.AcknowledgeFlagsAreWrittenByTheCheckAlone : Prop :=
  (∀ (i : Instr) (s t : State), exec i s = .next t →
    (i = .cackSclLow → t.acknowledgeBit = s.sdaWire s.envLowSda ∧
      (t.acknowledgeError = true ↔ s.acknowledgeError = true ∨ t.acknowledgeBit = true)) ∧
    ((∃ b n, i = .write b n) ∨ (∃ b n, i = .read b n) ∨ i = .init →
      t.acknowledgeBit = false ∧ t.acknowledgeError = false) ∧
    (i ≠ .cackSclLow → (∀ b n, i ≠ .write b n) → (∀ b n, i ≠ .read b n) → i ≠ .init →
      (t.acknowledgeBit = s.acknowledgeBit ∧ t.acknowledgeError = s.acknowledgeError) ∨
      ((i = .stopWrite ∨ i = .stopRead) ∧ s.step ≠ 0x00 ∧ t.acknowledgeBit = false ∧
        t.acknowledgeError = false))) ∧
  State.reset.acknowledgeBit = false ∧ State.reset.acknowledgeError = false

/-- R36, and R35's clause on push-pull: no instruction selects push-pull on either line or samples SCL, SCL
becomes an input only inside a cancelling stop command's DeinitBus, and directions keep the latches
(decisions D6, D7). -/
def Obligations.LinesAreNeverPushPullAndSclIsNeverSampled : Prop :=
  (∀ (i : Instr) (s t : State), exec i s = .next t →
    (t.sda.dir = .outputPushPull → s.sda.dir = .outputPushPull) ∧
    (t.scl.dir = s.scl.dir ∨ t.scl.dir = .outputOpenDrain) ∧
    ∃ calls, t.pinCallLog = s.pinCallLog ++ calls ∧ (∀ level, .scl (.state level) ∉ calls) ∧
      .sda (.setDirection .outputPushPull) ∉ calls ∧ .scl (.setDirection .outputPushPull) ∉ calls ∧
      (.scl (.setDirection .input) ∈ calls → i = .stopWrite ∨ i = .stopRead)) ∧
  (∀ s : State, s.initBus.scl = { dir := .outputOpenDrain, latch := true } ∧
    ∀ d, (s.sclSetDirection d).scl = { s.scl with dir := d } ∧
      (s.sdaSetDirection d).sda = { s.sda with dir := d }) ∧
  State.reset.scl = { dir := .outputOpenDrain, latch := true }

/-- R62: `BUF` is written by FinishAck after a received payload byte, at `data + dataIndex`, and by nothing
else. A CACK_SCL_LOW of a read that is past its address byte cannot occur (R179): the hypothesis on it is
part of the invariant. -/
def Obligations.BufferIsWrittenOnlyWithReceivedBytes : Prop :=
  ∀ (i : Instr) (s t : State), exec i s = .next t →
    (i = .cackSclLow → s.writingAddress = true ∨ s.lastOperationWasWrite = true) →
    (i ≠ .sackSclLow → t.buf = s.buf) ∧
    (i = .sackSclLow → s.writingAddress = false → s.lastOperationWasWrite = false →
      ∃ d, s.data = some d ∧
        (Memory.wf s.widths.aw s.buf = true → t.byteAt (d + s.dataIndex) = s.activeByte) ∧
        ∀ a, a ≠ d + s.dataIndex → t.byteAt a = s.byteAt a) ∧
    (i = .sackSclLow → (s.writingAddress = true ∨ s.lastOperationWasWrite = true) → t.buf = s.buf)

/-- The engine's samples (R117): CACK_SCL_LOW and RBIT_SCL_HIGH take one draw each and no other instruction
takes any, and where the invariant holds the sampled level is the environment's alone. The draws that are not
given are the free value of log entry 4, and the statement holds for every one. -/
def Obligations.SamplesAreTheEnvironmentsAndAreTakenAtTwoSteps : Prop :=
  ∀ (i : Instr) (s t : State), exec i s = .next t →
    (i ≠ .cackSclLow → i ≠ .rbitSclHigh → t.envDraws = s.envDraws ∧ t.samplesTaken = s.samplesTaken) ∧
    (i = .cackSclLow ∨ i = .rbitSclHigh →
      t.envDraws = s.envDraws.tail ∧ t.samplesTaken = s.samplesTaken + 1) ∧
    (i = .cackSclLow → stepContext .cackSclLow s = true → t.acknowledgeBit = !s.envLowSda) ∧
    (i = .rbitSclHigh → stepContext .rbitSclHigh s = true → t.sampledBit = !s.envLowSda)

/-- The engine's own transitions neither change nor read a byte of `BUF` outside the buffer of the call in
flight (R61, R62, R68): with another byte there, the same state follows, but for that byte. -/
def Obligations.BytesOutsideTheBufferNeitherChangeNorMatter : Prop :=
  ∀ (s t : State) (a : Nat) (v : Byte), s.Inv → s.hostMoves = [] → step s = .next t →
    a < 2 ^ s.widths.aw → (∀ d, s.data = some d → a < d ∨ d + s.dataSize ≤ a) →
    t.byteAt a = s.byteAt a ∧
    ∃ t', step { s with buf := Memory.write s.buf a v } = .next t' ∧ t' = { t with buf := t'.buf } ∧
      t'.byteAt a = v ∧ ∀ other, other ≠ a → t'.byteAt other = t.byteAt other

/-- R70 and R71: while a transaction is in flight no transition but the engine's store of a received payload
byte, at the address of that byte, changes a byte of `BUF`: no command does, and the host has no store. -/
def Obligations.OnlyTheEngineWritesTheBufferSpaceInFlight : Prop :=
  ∀ (s t : State) (a : Nat), s.Inv → s.step ≠ 0x00 → step s = .next t → t.byteAt a ≠ s.byteAt a →
    s.step = 0x0E ∧ s.payloadAddress = .next a ∧ t.byteAt a = s.activeByte

/-! ## Frames -/

/-- The steps that only move the lines leave every other register, every flag, the configuration, the marks,
the signals and every byte of `BUF` as they were. -/
def Obligations.LineStepsLeaveTheRest : Prop :=
  ∀ (i : Instr) (s t : State),
    i ∈ [.startSdaLow, .startSclLow, .restartSdaHigh, .restartSclHigh, .stopSdaLow, .stopSclHigh,
      .wbitSda, .wbitSclHigh, .cackSclHigh, .sackSda, .sackSclHigh] →
    exec i s = .next t →
    t = { s with
      sda := t.sda, scl := t.scl, step := t.step, timerArmed := t.timerArmed, pinCallLog := t.pinCallLog } ∧
    ∀ a, t.byteAt a = s.byteAt a

/-- The counting and sampling steps of the shifter write the shifter's registers and nothing else. -/
def Obligations.ShiftStepsLeaveTheRest : Prop :=
  ∀ (i : Instr) (s t : State), i ∈ [.wbitSclLow, .rbitSclHigh, .rbitSclLow] → exec i s = .next t →
    (t = { s with
      sda := t.sda, scl := t.scl, step := t.step, timerArmed := t.timerArmed, pinCallLog := t.pinCallLog,
      bitIndex := t.bitIndex, activeByte := t.activeByte, sampledBit := t.sampledBit,
      envDraws := t.envDraws, samplesTaken := t.samplesTaken }) ∧
    (i = .wbitSclLow → t.sda = s.sda ∧ t.activeByte = s.activeByte ∧ t.sampledBit = s.sampledBit ∧
      t.samplesTaken = s.samplesTaken) ∧
    (i = .rbitSclHigh → t.bitIndex = s.bitIndex ∧ t.activeByte = s.activeByte) ∧
    (i = .rbitSclLow → t.sda = s.sda ∧ t.sampledBit = s.sampledBit ∧ t.samplesTaken = s.samplesTaken) ∧
    ∀ a, t.byteAt a = s.byteAt a

/-- The steps that end a byte or a transaction: what FinishAck and STOP_SDA_HIGH leave alone. Of `BUF`, the
payload byte of a received byte alone may change; a CACK_SCL_LOW of a read that is past its address byte cannot
occur (R179). -/
def Obligations.FinishingStepsLeaveTheRest : Prop :=
  ∀ (i : Instr) (s t : State), i ∈ [.cackSclLow, .sackSclLow, .stopSdaHigh] → exec i s = .next t →
    t.widths = s.widths ∧ t.lastFrame = s.lastFrame ∧ t.lastOperationWasWrite = s.lastOperationWasWrite ∧
    t.cfgAddress = s.cfgAddress ∧ t.cfgFrame = s.cfgFrame ∧ t.faults = s.faults ∧
    t.hostMoves = s.hostMoves ∧ t.sampledBit = s.sampledBit ∧ t.scl.dir = s.scl.dir ∧
    t.sda.latch = (if i = .stopSdaHigh then true else s.sda.latch) ∧
    (i ≠ .stopSdaHigh → t.data = s.data ∧ t.dataSize = s.dataSize) ∧
    (i = .stopSdaHigh ∨ s.writingAddress = true ∨ s.lastOperationWasWrite = true →
      ∀ a, t.byteAt a = s.byteAt a) ∧
    (∀ a, s.payloadAddress = .next a → ∀ other, other ≠ a → t.byteAt other = s.byteAt other) ∧
    (i ≠ .cackSclLow → t.sda.dir = s.sda.dir ∧ t.acknowledgeBit = s.acknowledgeBit ∧
      t.acknowledgeError = s.acknowledgeError ∧ t.envDraws = s.envDraws ∧
      t.samplesTaken = s.samplesTaken) ∧
    (i = .stopSdaHigh → t.scl = s.scl ∧ t.timerArmed = s.timerArmed ∧ t.activeByte = s.activeByte ∧
      t.bitIndex = s.bitIndex ∧ t.writingAddress = s.writingAddress)

/-- The commands: WRITE and READ touch no line and no byte of `BUF`, the configuration commands touch
nothing but their register, and INIT and the stop commands keep the configuration, the marks and `BUF`. -/
def Obligations.CommandsLeaveTheRest : Prop :=
  ∀ (i : Instr) (s t : State), i.isStep = false → exec i s = .next t →
    t.widths = s.widths ∧ t.faults = s.faults ∧ t.hostMoves = s.hostMoves ∧ t.envDraws = s.envDraws ∧
    t.samplesTaken = s.samplesTaken ∧ (∀ a, t.byteAt a = s.byteAt a) ∧
    ((∃ b n, i = .write b n) ∨ (∃ b n, i = .read b n) →
      t.sda = s.sda ∧ t.scl = s.scl ∧ t.sampledBit = s.sampledBit ∧ t.signalLog = s.signalLog ∧
      t.cfgAddress = s.cfgAddress ∧ t.cfgFrame = s.cfgFrame) ∧
    (∀ a, i = .setAddress a → t = { s with cfgAddress := t.cfgAddress }) ∧
    (∀ f, i = .setFrame f → t = { s with cfgFrame := t.cfgFrame }) ∧
    (i = .init → t.signalLog = s.signalLog) ∧
    (i = .init ∨ i = .stopWrite ∨ i = .stopRead → t.cfgAddress = s.cfgAddress ∧ t.cfgFrame = s.cfgFrame)

/-- No transition changes the width parameters (R7; log entry 1 keeps them in the state). -/
def Obligations.WidthsNeverChange : Prop :=
  ∀ (s t : State), step s = .next t → t.widths = s.widths

/-! ## Invariants and whole transfers -/

/-- The state every run starts in has the invariant. -/
def Obligations.ResetHasTheInvariant : Prop := State.reset.Inv

/-- Every transition keeps the invariant: the canonical form of `BUF`, the cursor inside the buffer,
`timerArmed == busy` (R41(a)), SCL low at IDLE only after a held transfer (R41(b)), `writingAddress` only in
the address phase (R41(c)), a buffer wherever bytes are due (R41(d)), a legal step code (R89), a Stop only
for Last and FirstAndLast or after a NACK (R40(c)), the address byte's direction bit (R40(b)), and SDA an
input exactly at the sample points (R117). -/
def Obligations.EveryStepKeepsTheInvariant : Prop :=
  ∀ (s t : State), s.Inv → step s = .next t → t.Inv

/-- From a state with the invariant nothing stops the machine but the host: the faults and refusals R233 and
R234 give its commands, and moves it does not have (R71, R80). UNREACHABLE_STEP, an access outside the
buffer (R68), contention (R115) and a stuck engine never happen. -/
def Obligations.OnlyTheHostCanStopTheMachine : Prop :=
  ∀ (s : State), s.Inv → stopIsTheHosts (step s) = true

/-- The first property of the source's §8 (E2, decision-free in the source; the counts are R273's, marked as
derived): a FirstAndLast write of `n` bytes to a slave that acknowledges every byte is exactly a Start, the
address byte, the `n` payload bytes in order, each with its check, and a Stop; it takes 26 n + 31 fires and
ends with `dataWritten` and no other signal. -/
def Obligations.AcknowledgedWriteIsStartBytesStop : Prop :=
  ∀ (s : State) (base : BitVec 32) (n : Nat) (rest : List Bool),
    s.step = 0x00 → s.sda.dir = .outputOpenDrain → s.cfgFrame = .firstAndLast → s.hostMoves = [] →
    base.toNat + n ≤ 2 ^ s.widths.aw → s.envDraws = List.replicate (n + 1) true ++ rest →
    ∃ s' t, exec (.write base n) s = .next s' ∧ core.run (26 * n + 31) s' = .next t ∧
      t.pinCallLog = s.pinCallLog ++ [.timerStart] ++ startCalls ++
        ackedByteCalls (addressByte s.cfgAddress false) ++
        (List.range n).flatMap (fun k => ackedByteCalls (s.byteAt (base.toNat + k))) ++ stopCalls ∧
      t.signalLog = s.signalLog ++ [.dataWritten] ∧ t.step = 0x00 ∧ t.timerArmed = false ∧
      t.data = none ∧ t.buf = s.buf ∧ t.envDraws = rest
end

