-- ==== Sys2Proof/Laws/Memory.lean ====
section
/-!
SUPPORT. The laws of the caller buffer space: a read after a write, and the canonical form.
-/

namespace Sys2Proof.Machine

/-- A list whose cells start above `a` reads as unlisted at `a`. -/
theorem Memory.read_below {lo hi : Nat} (m : List Host.Cell) (a : Nat)
    (h : Memory.wfFrom lo hi m = true) (ha : a < lo) : Memory.read m a = Memory.unlisted := by
  induction m generalizing lo with
  | nil => rfl
  | cons c m ih =>
    obtain ⟨k, x⟩ := c
    simp only [Memory.wfFrom, Bool.and_eq_true, decide_eq_true_eq] at h
    obtain ⟨⟨⟨hk, -⟩, -⟩, ht⟩ := h
    have hne : k ≠ a := by omega
    simp only [Memory.read, hne, if_false]
    exact ih ht (by omega)

/-- Reading another address gives what it gave before, whatever the list is. -/
theorem Memory.read_write_other (m : List Host.Cell) (a b : Nat) (v : Byte) (hab : b ≠ a) :
    Memory.read (Memory.write m a v) b = Memory.read m b := by
  have hab' : a ≠ b := fun h => hab h.symm
  induction m with
  | nil => simp only [Memory.write]; split <;> simp [Memory.read, hab']
  | cons c m ih =>
    obtain ⟨k, x⟩ := c
    simp only [Memory.write]
    split
    · split <;> simp [Memory.read, hab']
    · split
      · subst_vars
        split <;> simp [Memory.read, hab']
      · simp [Memory.read, ih]

/-- Reading the written address gives the written byte. -/
theorem Memory.read_write_same {lo hi : Nat} (m : List Host.Cell) (a : Nat) (v : Byte)
    (h : Memory.wfFrom lo hi m = true) : Memory.read (Memory.write m a v) a = v := by
  induction m generalizing lo with
  | nil => simp only [Memory.write]; split <;> simp_all [Memory.read]
  | cons c m ih =>
    obtain ⟨k, x⟩ := c
    simp only [Memory.wfFrom, Bool.and_eq_true, decide_eq_true_eq] at h
    obtain ⟨⟨⟨hk, -⟩, -⟩, ht⟩ := h
    simp only [Memory.write]
    split
    · rename_i hak
      split
      · have hne : k ≠ a := by omega
        simp only [Memory.read, hne, if_false]
        rw [Memory.read_below m a ht (by omega)]
        simp_all
      · simp [Memory.read]
    · split
      · subst_vars
        split
        · rw [Memory.read_below m k ht (by omega)]
          simp_all
        · simp [Memory.read]
      · rename_i hne
        have hne' : k ≠ a := fun h => hne h.symm
        simp only [Memory.read, hne', if_false]
        exact ih ht

/-- The canonical form from a bound holds from every lower bound. -/
theorem Memory.wfFrom_mono {lo lo' hi : Nat} (m : List Host.Cell) (h : Memory.wfFrom lo hi m = true)
    (hl : lo' ≤ lo) : Memory.wfFrom lo' hi m = true := by
  cases m with
  | nil => rfl
  | cons c m =>
    obtain ⟨k, x⟩ := c
    simp only [Memory.wfFrom, Bool.and_eq_true, decide_eq_true_eq] at h ⊢
    exact ⟨⟨⟨by omega, h.1.1.2⟩, h.1.2⟩, h.2⟩

/-- A write keeps the canonical form between the bounds. -/
theorem Memory.write_wfFrom {lo hi : Nat} (m : List Host.Cell) (a : Nat) (v : Byte)
    (h : Memory.wfFrom lo hi m = true) (hlo : lo ≤ a) (hhi : a < hi) :
    Memory.wfFrom lo hi (Memory.write m a v) = true := by
  induction m generalizing lo with
  | nil =>
    simp only [Memory.write]
    split <;> simp_all [Memory.wfFrom]
  | cons c m ih =>
    obtain ⟨k, x⟩ := c
    have h' := h
    simp only [Memory.wfFrom, Bool.and_eq_true, decide_eq_true_eq] at h'
    obtain ⟨⟨⟨hk, hkh⟩, hx⟩, ht⟩ := h'
    simp only [Memory.write]
    split
    · split
      · exact h
      · simp only [Memory.wfFrom, Bool.and_eq_true, decide_eq_true_eq]
        exact ⟨⟨⟨hlo, hhi⟩, by assumption⟩, ⟨⟨by omega, hkh⟩, hx⟩, ht⟩
    · split
      · subst_vars
        split
        · exact Memory.wfFrom_mono m ht (by omega)
        · simp only [Memory.wfFrom, Bool.and_eq_true, decide_eq_true_eq]
          exact ⟨⟨⟨hlo, hhi⟩, by assumption⟩, ht⟩
      · simp only [Memory.wfFrom, Bool.and_eq_true, decide_eq_true_eq]
        exact ⟨⟨⟨hk, hkh⟩, hx⟩, ih ht (by omega)⟩

/-- A write inside `BUF` keeps the canonical form (R60). -/
theorem Memory.write_wf {aw : Nat} (m : List Host.Cell) (a : Nat) (v : Byte)
    (h : Memory.wf aw m = true) (ha : a < 2 ^ aw) : Memory.wf aw (Memory.write m a v) = true :=
  Memory.write_wfFrom m a v h (Nat.zero_le a) ha

/-- What `MemWrite` can do: it writes one byte that `BUF` has and nothing else. -/
theorem State.memWrite_spec {s t : State} {a : Nat} {v : Byte} (h : s.memWrite a v = .next t) :
    a < 2 ^ s.widths.aw ∧ t = { s with buf := Memory.write s.buf a v } := by
  unfold State.memWrite at h
  split at h
  · exact ⟨by assumption, by injection h with h; exact h.symm⟩
  · cases h

/-- What `MemRead` can do: it answers a byte that `BUF` has. -/
theorem State.memRead_spec {s : State} {a : Nat} {v : Byte} (h : s.memRead a = .next v) :
    a < 2 ^ s.widths.aw ∧ v = Memory.read s.buf a := by
  unfold State.memRead at h
  split at h
  · exact ⟨by assumption, by injection h with h; exact h.symm⟩
  · cases h

/-- `MemWrite` keeps the canonical form. -/
theorem State.memWrite_wf {s t : State} {a : Nat} {v : Byte} (h : s.memWrite a v = .next t)
    (hw : Memory.wf s.widths.aw s.buf = true) : Memory.wf t.widths.aw t.buf = true := by
  obtain ⟨ha, rfl⟩ := State.memWrite_spec h
  exact Memory.write_wf s.buf a v hw ha

/-- The buffer space at reset is in canonical form. -/
theorem State.reset_buf_wf : Memory.wf State.reset.widths.aw State.reset.buf = true := rfl

end Sys2Proof.Machine
end

