-- ==== Sys2Proof/Laws/State.lean ====
section
/-!
SUPPORT. One lemma per field per named update of the state, each true by unfolding.
-/

namespace Sys2Proof.Machine

variable (s : State)

/-! `State.logCall` -/

@[simp] theorem State.logCall_widths (c : PinCall) : (s.logCall c).widths = s.widths := rfl
@[simp] theorem State.logCall_buf (c : PinCall) : (s.logCall c).buf = s.buf := rfl
@[simp] theorem State.logCall_activeByte (c : PinCall) : (s.logCall c).activeByte = s.activeByte := rfl
@[simp] theorem State.logCall_bitIndex (c : PinCall) : (s.logCall c).bitIndex = s.bitIndex := rfl
@[simp] theorem State.logCall_data (c : PinCall) : (s.logCall c).data = s.data := rfl
@[simp] theorem State.logCall_dataSize (c : PinCall) : (s.logCall c).dataSize = s.dataSize := rfl
@[simp] theorem State.logCall_dataIndex (c : PinCall) : (s.logCall c).dataIndex = s.dataIndex := rfl
@[simp] theorem State.logCall_writingAddress (c : PinCall) : (s.logCall c).writingAddress = s.writingAddress := rfl
@[simp] theorem State.logCall_lastFrame (c : PinCall) : (s.logCall c).lastFrame = s.lastFrame := rfl
@[simp] theorem State.logCall_lastOperationWasWrite (c : PinCall) : (s.logCall c).lastOperationWasWrite = s.lastOperationWasWrite := rfl
@[simp] theorem State.logCall_acknowledgeBit (c : PinCall) : (s.logCall c).acknowledgeBit = s.acknowledgeBit := rfl
@[simp] theorem State.logCall_acknowledgeError (c : PinCall) : (s.logCall c).acknowledgeError = s.acknowledgeError := rfl
@[simp] theorem State.logCall_step (c : PinCall) : (s.logCall c).step = s.step := rfl
@[simp] theorem State.logCall_sampledBit (c : PinCall) : (s.logCall c).sampledBit = s.sampledBit := rfl
@[simp] theorem State.logCall_cfgAddress (c : PinCall) : (s.logCall c).cfgAddress = s.cfgAddress := rfl
@[simp] theorem State.logCall_cfgFrame (c : PinCall) : (s.logCall c).cfgFrame = s.cfgFrame := rfl
@[simp] theorem State.logCall_sda (c : PinCall) : (s.logCall c).sda = s.sda := rfl
@[simp] theorem State.logCall_scl (c : PinCall) : (s.logCall c).scl = s.scl := rfl
@[simp] theorem State.logCall_timerArmed (c : PinCall) : (s.logCall c).timerArmed = s.timerArmed := rfl
@[simp] theorem State.logCall_faults (c : PinCall) : (s.logCall c).faults = s.faults := rfl
@[simp] theorem State.logCall_signalLog (c : PinCall) : (s.logCall c).signalLog = s.signalLog := rfl
@[simp] theorem State.logCall_pinCallLog (c : PinCall) : (s.logCall c).pinCallLog = s.pinCallLog ++ [c] := rfl
@[simp] theorem State.logCall_hostMoves (c : PinCall) : (s.logCall c).hostMoves = s.hostMoves := rfl
@[simp] theorem State.logCall_envDraws (c : PinCall) : (s.logCall c).envDraws = s.envDraws := rfl
@[simp] theorem State.logCall_samplesTaken (c : PinCall) : (s.logCall c).samplesTaken = s.samplesTaken := rfl

/-! `State.sdaSet` -/

@[simp] theorem State.sdaSet_widths : (s.sdaSet).widths = s.widths := rfl
@[simp] theorem State.sdaSet_buf : (s.sdaSet).buf = s.buf := rfl
@[simp] theorem State.sdaSet_activeByte : (s.sdaSet).activeByte = s.activeByte := rfl
@[simp] theorem State.sdaSet_bitIndex : (s.sdaSet).bitIndex = s.bitIndex := rfl
@[simp] theorem State.sdaSet_data : (s.sdaSet).data = s.data := rfl
@[simp] theorem State.sdaSet_dataSize : (s.sdaSet).dataSize = s.dataSize := rfl
@[simp] theorem State.sdaSet_dataIndex : (s.sdaSet).dataIndex = s.dataIndex := rfl
@[simp] theorem State.sdaSet_writingAddress : (s.sdaSet).writingAddress = s.writingAddress := rfl
@[simp] theorem State.sdaSet_lastFrame : (s.sdaSet).lastFrame = s.lastFrame := rfl
@[simp] theorem State.sdaSet_lastOperationWasWrite : (s.sdaSet).lastOperationWasWrite = s.lastOperationWasWrite := rfl
@[simp] theorem State.sdaSet_acknowledgeBit : (s.sdaSet).acknowledgeBit = s.acknowledgeBit := rfl
@[simp] theorem State.sdaSet_acknowledgeError : (s.sdaSet).acknowledgeError = s.acknowledgeError := rfl
@[simp] theorem State.sdaSet_step : (s.sdaSet).step = s.step := rfl
@[simp] theorem State.sdaSet_sampledBit : (s.sdaSet).sampledBit = s.sampledBit := rfl
@[simp] theorem State.sdaSet_cfgAddress : (s.sdaSet).cfgAddress = s.cfgAddress := rfl
@[simp] theorem State.sdaSet_cfgFrame : (s.sdaSet).cfgFrame = s.cfgFrame := rfl
@[simp] theorem State.sdaSet_sda : (s.sdaSet).sda = { s.sda with latch := true } := rfl
@[simp] theorem State.sdaSet_scl : (s.sdaSet).scl = s.scl := rfl
@[simp] theorem State.sdaSet_timerArmed : (s.sdaSet).timerArmed = s.timerArmed := rfl
@[simp] theorem State.sdaSet_faults : (s.sdaSet).faults = s.faults := rfl
@[simp] theorem State.sdaSet_signalLog : (s.sdaSet).signalLog = s.signalLog := rfl
@[simp] theorem State.sdaSet_pinCallLog : (s.sdaSet).pinCallLog = s.pinCallLog ++ [.sda .set] := rfl
@[simp] theorem State.sdaSet_hostMoves : (s.sdaSet).hostMoves = s.hostMoves := rfl
@[simp] theorem State.sdaSet_envDraws : (s.sdaSet).envDraws = s.envDraws := rfl
@[simp] theorem State.sdaSet_samplesTaken : (s.sdaSet).samplesTaken = s.samplesTaken := rfl

/-! `State.sdaReset` -/

@[simp] theorem State.sdaReset_widths : (s.sdaReset).widths = s.widths := rfl
@[simp] theorem State.sdaReset_buf : (s.sdaReset).buf = s.buf := rfl
@[simp] theorem State.sdaReset_activeByte : (s.sdaReset).activeByte = s.activeByte := rfl
@[simp] theorem State.sdaReset_bitIndex : (s.sdaReset).bitIndex = s.bitIndex := rfl
@[simp] theorem State.sdaReset_data : (s.sdaReset).data = s.data := rfl
@[simp] theorem State.sdaReset_dataSize : (s.sdaReset).dataSize = s.dataSize := rfl
@[simp] theorem State.sdaReset_dataIndex : (s.sdaReset).dataIndex = s.dataIndex := rfl
@[simp] theorem State.sdaReset_writingAddress : (s.sdaReset).writingAddress = s.writingAddress := rfl
@[simp] theorem State.sdaReset_lastFrame : (s.sdaReset).lastFrame = s.lastFrame := rfl
@[simp] theorem State.sdaReset_lastOperationWasWrite : (s.sdaReset).lastOperationWasWrite = s.lastOperationWasWrite := rfl
@[simp] theorem State.sdaReset_acknowledgeBit : (s.sdaReset).acknowledgeBit = s.acknowledgeBit := rfl
@[simp] theorem State.sdaReset_acknowledgeError : (s.sdaReset).acknowledgeError = s.acknowledgeError := rfl
@[simp] theorem State.sdaReset_step : (s.sdaReset).step = s.step := rfl
@[simp] theorem State.sdaReset_sampledBit : (s.sdaReset).sampledBit = s.sampledBit := rfl
@[simp] theorem State.sdaReset_cfgAddress : (s.sdaReset).cfgAddress = s.cfgAddress := rfl
@[simp] theorem State.sdaReset_cfgFrame : (s.sdaReset).cfgFrame = s.cfgFrame := rfl
@[simp] theorem State.sdaReset_sda : (s.sdaReset).sda = { s.sda with latch := false } := rfl
@[simp] theorem State.sdaReset_scl : (s.sdaReset).scl = s.scl := rfl
@[simp] theorem State.sdaReset_timerArmed : (s.sdaReset).timerArmed = s.timerArmed := rfl
@[simp] theorem State.sdaReset_faults : (s.sdaReset).faults = s.faults := rfl
@[simp] theorem State.sdaReset_signalLog : (s.sdaReset).signalLog = s.signalLog := rfl
@[simp] theorem State.sdaReset_pinCallLog : (s.sdaReset).pinCallLog = s.pinCallLog ++ [.sda .reset] := rfl
@[simp] theorem State.sdaReset_hostMoves : (s.sdaReset).hostMoves = s.hostMoves := rfl
@[simp] theorem State.sdaReset_envDraws : (s.sdaReset).envDraws = s.envDraws := rfl
@[simp] theorem State.sdaReset_samplesTaken : (s.sdaReset).samplesTaken = s.samplesTaken := rfl

/-! `State.sdaSetDirection` -/

@[simp] theorem State.sdaSetDirection_widths (d : Direction) : (s.sdaSetDirection d).widths = s.widths := rfl
@[simp] theorem State.sdaSetDirection_buf (d : Direction) : (s.sdaSetDirection d).buf = s.buf := rfl
@[simp] theorem State.sdaSetDirection_activeByte (d : Direction) : (s.sdaSetDirection d).activeByte = s.activeByte := rfl
@[simp] theorem State.sdaSetDirection_bitIndex (d : Direction) : (s.sdaSetDirection d).bitIndex = s.bitIndex := rfl
@[simp] theorem State.sdaSetDirection_data (d : Direction) : (s.sdaSetDirection d).data = s.data := rfl
@[simp] theorem State.sdaSetDirection_dataSize (d : Direction) : (s.sdaSetDirection d).dataSize = s.dataSize := rfl
@[simp] theorem State.sdaSetDirection_dataIndex (d : Direction) : (s.sdaSetDirection d).dataIndex = s.dataIndex := rfl
@[simp] theorem State.sdaSetDirection_writingAddress (d : Direction) : (s.sdaSetDirection d).writingAddress = s.writingAddress := rfl
@[simp] theorem State.sdaSetDirection_lastFrame (d : Direction) : (s.sdaSetDirection d).lastFrame = s.lastFrame := rfl
@[simp] theorem State.sdaSetDirection_lastOperationWasWrite (d : Direction) : (s.sdaSetDirection d).lastOperationWasWrite = s.lastOperationWasWrite := rfl
@[simp] theorem State.sdaSetDirection_acknowledgeBit (d : Direction) : (s.sdaSetDirection d).acknowledgeBit = s.acknowledgeBit := rfl
@[simp] theorem State.sdaSetDirection_acknowledgeError (d : Direction) : (s.sdaSetDirection d).acknowledgeError = s.acknowledgeError := rfl
@[simp] theorem State.sdaSetDirection_step (d : Direction) : (s.sdaSetDirection d).step = s.step := rfl
@[simp] theorem State.sdaSetDirection_sampledBit (d : Direction) : (s.sdaSetDirection d).sampledBit = s.sampledBit := rfl
@[simp] theorem State.sdaSetDirection_cfgAddress (d : Direction) : (s.sdaSetDirection d).cfgAddress = s.cfgAddress := rfl
@[simp] theorem State.sdaSetDirection_cfgFrame (d : Direction) : (s.sdaSetDirection d).cfgFrame = s.cfgFrame := rfl
@[simp] theorem State.sdaSetDirection_sda (d : Direction) : (s.sdaSetDirection d).sda = { s.sda with dir := d } := rfl
@[simp] theorem State.sdaSetDirection_scl (d : Direction) : (s.sdaSetDirection d).scl = s.scl := rfl
@[simp] theorem State.sdaSetDirection_timerArmed (d : Direction) : (s.sdaSetDirection d).timerArmed = s.timerArmed := rfl
@[simp] theorem State.sdaSetDirection_faults (d : Direction) : (s.sdaSetDirection d).faults = s.faults := rfl
@[simp] theorem State.sdaSetDirection_signalLog (d : Direction) : (s.sdaSetDirection d).signalLog = s.signalLog := rfl
@[simp] theorem State.sdaSetDirection_pinCallLog (d : Direction) : (s.sdaSetDirection d).pinCallLog = s.pinCallLog ++ [.sda (.setDirection d)] := rfl
@[simp] theorem State.sdaSetDirection_hostMoves (d : Direction) : (s.sdaSetDirection d).hostMoves = s.hostMoves := rfl
@[simp] theorem State.sdaSetDirection_envDraws (d : Direction) : (s.sdaSetDirection d).envDraws = s.envDraws := rfl
@[simp] theorem State.sdaSetDirection_samplesTaken (d : Direction) : (s.sdaSetDirection d).samplesTaken = s.samplesTaken := rfl

/-! `State.sclSet` -/

@[simp] theorem State.sclSet_widths : (s.sclSet).widths = s.widths := rfl
@[simp] theorem State.sclSet_buf : (s.sclSet).buf = s.buf := rfl
@[simp] theorem State.sclSet_activeByte : (s.sclSet).activeByte = s.activeByte := rfl
@[simp] theorem State.sclSet_bitIndex : (s.sclSet).bitIndex = s.bitIndex := rfl
@[simp] theorem State.sclSet_data : (s.sclSet).data = s.data := rfl
@[simp] theorem State.sclSet_dataSize : (s.sclSet).dataSize = s.dataSize := rfl
@[simp] theorem State.sclSet_dataIndex : (s.sclSet).dataIndex = s.dataIndex := rfl
@[simp] theorem State.sclSet_writingAddress : (s.sclSet).writingAddress = s.writingAddress := rfl
@[simp] theorem State.sclSet_lastFrame : (s.sclSet).lastFrame = s.lastFrame := rfl
@[simp] theorem State.sclSet_lastOperationWasWrite : (s.sclSet).lastOperationWasWrite = s.lastOperationWasWrite := rfl
@[simp] theorem State.sclSet_acknowledgeBit : (s.sclSet).acknowledgeBit = s.acknowledgeBit := rfl
@[simp] theorem State.sclSet_acknowledgeError : (s.sclSet).acknowledgeError = s.acknowledgeError := rfl
@[simp] theorem State.sclSet_step : (s.sclSet).step = s.step := rfl
@[simp] theorem State.sclSet_sampledBit : (s.sclSet).sampledBit = s.sampledBit := rfl
@[simp] theorem State.sclSet_cfgAddress : (s.sclSet).cfgAddress = s.cfgAddress := rfl
@[simp] theorem State.sclSet_cfgFrame : (s.sclSet).cfgFrame = s.cfgFrame := rfl
@[simp] theorem State.sclSet_sda : (s.sclSet).sda = s.sda := rfl
@[simp] theorem State.sclSet_scl : (s.sclSet).scl = { s.scl with latch := true } := rfl
@[simp] theorem State.sclSet_timerArmed : (s.sclSet).timerArmed = s.timerArmed := rfl
@[simp] theorem State.sclSet_faults : (s.sclSet).faults = s.faults := rfl
@[simp] theorem State.sclSet_signalLog : (s.sclSet).signalLog = s.signalLog := rfl
@[simp] theorem State.sclSet_pinCallLog : (s.sclSet).pinCallLog = s.pinCallLog ++ [.scl .set] := rfl
@[simp] theorem State.sclSet_hostMoves : (s.sclSet).hostMoves = s.hostMoves := rfl
@[simp] theorem State.sclSet_envDraws : (s.sclSet).envDraws = s.envDraws := rfl
@[simp] theorem State.sclSet_samplesTaken : (s.sclSet).samplesTaken = s.samplesTaken := rfl

/-! `State.sclReset` -/

@[simp] theorem State.sclReset_widths : (s.sclReset).widths = s.widths := rfl
@[simp] theorem State.sclReset_buf : (s.sclReset).buf = s.buf := rfl
@[simp] theorem State.sclReset_activeByte : (s.sclReset).activeByte = s.activeByte := rfl
@[simp] theorem State.sclReset_bitIndex : (s.sclReset).bitIndex = s.bitIndex := rfl
@[simp] theorem State.sclReset_data : (s.sclReset).data = s.data := rfl
@[simp] theorem State.sclReset_dataSize : (s.sclReset).dataSize = s.dataSize := rfl
@[simp] theorem State.sclReset_dataIndex : (s.sclReset).dataIndex = s.dataIndex := rfl
@[simp] theorem State.sclReset_writingAddress : (s.sclReset).writingAddress = s.writingAddress := rfl
@[simp] theorem State.sclReset_lastFrame : (s.sclReset).lastFrame = s.lastFrame := rfl
@[simp] theorem State.sclReset_lastOperationWasWrite : (s.sclReset).lastOperationWasWrite = s.lastOperationWasWrite := rfl
@[simp] theorem State.sclReset_acknowledgeBit : (s.sclReset).acknowledgeBit = s.acknowledgeBit := rfl
@[simp] theorem State.sclReset_acknowledgeError : (s.sclReset).acknowledgeError = s.acknowledgeError := rfl
@[simp] theorem State.sclReset_step : (s.sclReset).step = s.step := rfl
@[simp] theorem State.sclReset_sampledBit : (s.sclReset).sampledBit = s.sampledBit := rfl
@[simp] theorem State.sclReset_cfgAddress : (s.sclReset).cfgAddress = s.cfgAddress := rfl
@[simp] theorem State.sclReset_cfgFrame : (s.sclReset).cfgFrame = s.cfgFrame := rfl
@[simp] theorem State.sclReset_sda : (s.sclReset).sda = s.sda := rfl
@[simp] theorem State.sclReset_scl : (s.sclReset).scl = { s.scl with latch := false } := rfl
@[simp] theorem State.sclReset_timerArmed : (s.sclReset).timerArmed = s.timerArmed := rfl
@[simp] theorem State.sclReset_faults : (s.sclReset).faults = s.faults := rfl
@[simp] theorem State.sclReset_signalLog : (s.sclReset).signalLog = s.signalLog := rfl
@[simp] theorem State.sclReset_pinCallLog : (s.sclReset).pinCallLog = s.pinCallLog ++ [.scl .reset] := rfl
@[simp] theorem State.sclReset_hostMoves : (s.sclReset).hostMoves = s.hostMoves := rfl
@[simp] theorem State.sclReset_envDraws : (s.sclReset).envDraws = s.envDraws := rfl
@[simp] theorem State.sclReset_samplesTaken : (s.sclReset).samplesTaken = s.samplesTaken := rfl

/-! `State.sclSetDirection` -/

@[simp] theorem State.sclSetDirection_widths (d : Direction) : (s.sclSetDirection d).widths = s.widths := rfl
@[simp] theorem State.sclSetDirection_buf (d : Direction) : (s.sclSetDirection d).buf = s.buf := rfl
@[simp] theorem State.sclSetDirection_activeByte (d : Direction) : (s.sclSetDirection d).activeByte = s.activeByte := rfl
@[simp] theorem State.sclSetDirection_bitIndex (d : Direction) : (s.sclSetDirection d).bitIndex = s.bitIndex := rfl
@[simp] theorem State.sclSetDirection_data (d : Direction) : (s.sclSetDirection d).data = s.data := rfl
@[simp] theorem State.sclSetDirection_dataSize (d : Direction) : (s.sclSetDirection d).dataSize = s.dataSize := rfl
@[simp] theorem State.sclSetDirection_dataIndex (d : Direction) : (s.sclSetDirection d).dataIndex = s.dataIndex := rfl
@[simp] theorem State.sclSetDirection_writingAddress (d : Direction) : (s.sclSetDirection d).writingAddress = s.writingAddress := rfl
@[simp] theorem State.sclSetDirection_lastFrame (d : Direction) : (s.sclSetDirection d).lastFrame = s.lastFrame := rfl
@[simp] theorem State.sclSetDirection_lastOperationWasWrite (d : Direction) : (s.sclSetDirection d).lastOperationWasWrite = s.lastOperationWasWrite := rfl
@[simp] theorem State.sclSetDirection_acknowledgeBit (d : Direction) : (s.sclSetDirection d).acknowledgeBit = s.acknowledgeBit := rfl
@[simp] theorem State.sclSetDirection_acknowledgeError (d : Direction) : (s.sclSetDirection d).acknowledgeError = s.acknowledgeError := rfl
@[simp] theorem State.sclSetDirection_step (d : Direction) : (s.sclSetDirection d).step = s.step := rfl
@[simp] theorem State.sclSetDirection_sampledBit (d : Direction) : (s.sclSetDirection d).sampledBit = s.sampledBit := rfl
@[simp] theorem State.sclSetDirection_cfgAddress (d : Direction) : (s.sclSetDirection d).cfgAddress = s.cfgAddress := rfl
@[simp] theorem State.sclSetDirection_cfgFrame (d : Direction) : (s.sclSetDirection d).cfgFrame = s.cfgFrame := rfl
@[simp] theorem State.sclSetDirection_sda (d : Direction) : (s.sclSetDirection d).sda = s.sda := rfl
@[simp] theorem State.sclSetDirection_scl (d : Direction) : (s.sclSetDirection d).scl = { s.scl with dir := d } := rfl
@[simp] theorem State.sclSetDirection_timerArmed (d : Direction) : (s.sclSetDirection d).timerArmed = s.timerArmed := rfl
@[simp] theorem State.sclSetDirection_faults (d : Direction) : (s.sclSetDirection d).faults = s.faults := rfl
@[simp] theorem State.sclSetDirection_signalLog (d : Direction) : (s.sclSetDirection d).signalLog = s.signalLog := rfl
@[simp] theorem State.sclSetDirection_pinCallLog (d : Direction) : (s.sclSetDirection d).pinCallLog = s.pinCallLog ++ [.scl (.setDirection d)] := rfl
@[simp] theorem State.sclSetDirection_hostMoves (d : Direction) : (s.sclSetDirection d).hostMoves = s.hostMoves := rfl
@[simp] theorem State.sclSetDirection_envDraws (d : Direction) : (s.sclSetDirection d).envDraws = s.envDraws := rfl
@[simp] theorem State.sclSetDirection_samplesTaken (d : Direction) : (s.sclSetDirection d).samplesTaken = s.samplesTaken := rfl

/-! `State.timerStart` -/

@[simp] theorem State.timerStart_widths : (s.timerStart).widths = s.widths := rfl
@[simp] theorem State.timerStart_buf : (s.timerStart).buf = s.buf := rfl
@[simp] theorem State.timerStart_activeByte : (s.timerStart).activeByte = s.activeByte := rfl
@[simp] theorem State.timerStart_bitIndex : (s.timerStart).bitIndex = s.bitIndex := rfl
@[simp] theorem State.timerStart_data : (s.timerStart).data = s.data := rfl
@[simp] theorem State.timerStart_dataSize : (s.timerStart).dataSize = s.dataSize := rfl
@[simp] theorem State.timerStart_dataIndex : (s.timerStart).dataIndex = s.dataIndex := rfl
@[simp] theorem State.timerStart_writingAddress : (s.timerStart).writingAddress = s.writingAddress := rfl
@[simp] theorem State.timerStart_lastFrame : (s.timerStart).lastFrame = s.lastFrame := rfl
@[simp] theorem State.timerStart_lastOperationWasWrite : (s.timerStart).lastOperationWasWrite = s.lastOperationWasWrite := rfl
@[simp] theorem State.timerStart_acknowledgeBit : (s.timerStart).acknowledgeBit = s.acknowledgeBit := rfl
@[simp] theorem State.timerStart_acknowledgeError : (s.timerStart).acknowledgeError = s.acknowledgeError := rfl
@[simp] theorem State.timerStart_step : (s.timerStart).step = s.step := rfl
@[simp] theorem State.timerStart_sampledBit : (s.timerStart).sampledBit = s.sampledBit := rfl
@[simp] theorem State.timerStart_cfgAddress : (s.timerStart).cfgAddress = s.cfgAddress := rfl
@[simp] theorem State.timerStart_cfgFrame : (s.timerStart).cfgFrame = s.cfgFrame := rfl
@[simp] theorem State.timerStart_sda : (s.timerStart).sda = s.sda := rfl
@[simp] theorem State.timerStart_scl : (s.timerStart).scl = s.scl := rfl
@[simp] theorem State.timerStart_timerArmed : (s.timerStart).timerArmed = true := rfl
@[simp] theorem State.timerStart_faults : (s.timerStart).faults = s.faults := rfl
@[simp] theorem State.timerStart_signalLog : (s.timerStart).signalLog = s.signalLog := rfl
@[simp] theorem State.timerStart_pinCallLog : (s.timerStart).pinCallLog = s.pinCallLog ++ [.timerStart] := rfl
@[simp] theorem State.timerStart_hostMoves : (s.timerStart).hostMoves = s.hostMoves := rfl
@[simp] theorem State.timerStart_envDraws : (s.timerStart).envDraws = s.envDraws := rfl
@[simp] theorem State.timerStart_samplesTaken : (s.timerStart).samplesTaken = s.samplesTaken := rfl

/-! `State.timerStop` -/

@[simp] theorem State.timerStop_widths : (s.timerStop).widths = s.widths := rfl
@[simp] theorem State.timerStop_buf : (s.timerStop).buf = s.buf := rfl
@[simp] theorem State.timerStop_activeByte : (s.timerStop).activeByte = s.activeByte := rfl
@[simp] theorem State.timerStop_bitIndex : (s.timerStop).bitIndex = s.bitIndex := rfl
@[simp] theorem State.timerStop_data : (s.timerStop).data = s.data := rfl
@[simp] theorem State.timerStop_dataSize : (s.timerStop).dataSize = s.dataSize := rfl
@[simp] theorem State.timerStop_dataIndex : (s.timerStop).dataIndex = s.dataIndex := rfl
@[simp] theorem State.timerStop_writingAddress : (s.timerStop).writingAddress = s.writingAddress := rfl
@[simp] theorem State.timerStop_lastFrame : (s.timerStop).lastFrame = s.lastFrame := rfl
@[simp] theorem State.timerStop_lastOperationWasWrite : (s.timerStop).lastOperationWasWrite = s.lastOperationWasWrite := rfl
@[simp] theorem State.timerStop_acknowledgeBit : (s.timerStop).acknowledgeBit = s.acknowledgeBit := rfl
@[simp] theorem State.timerStop_acknowledgeError : (s.timerStop).acknowledgeError = s.acknowledgeError := rfl
@[simp] theorem State.timerStop_step : (s.timerStop).step = s.step := rfl
@[simp] theorem State.timerStop_sampledBit : (s.timerStop).sampledBit = s.sampledBit := rfl
@[simp] theorem State.timerStop_cfgAddress : (s.timerStop).cfgAddress = s.cfgAddress := rfl
@[simp] theorem State.timerStop_cfgFrame : (s.timerStop).cfgFrame = s.cfgFrame := rfl
@[simp] theorem State.timerStop_sda : (s.timerStop).sda = s.sda := rfl
@[simp] theorem State.timerStop_scl : (s.timerStop).scl = s.scl := rfl
@[simp] theorem State.timerStop_timerArmed : (s.timerStop).timerArmed = false := rfl
@[simp] theorem State.timerStop_faults : (s.timerStop).faults = s.faults := rfl
@[simp] theorem State.timerStop_signalLog : (s.timerStop).signalLog = s.signalLog := rfl
@[simp] theorem State.timerStop_pinCallLog : (s.timerStop).pinCallLog = s.pinCallLog ++ [.timerStop] := rfl
@[simp] theorem State.timerStop_hostMoves : (s.timerStop).hostMoves = s.hostMoves := rfl
@[simp] theorem State.timerStop_envDraws : (s.timerStop).envDraws = s.envDraws := rfl
@[simp] theorem State.timerStop_samplesTaken : (s.timerStop).samplesTaken = s.samplesTaken := rfl

/-! `State.drawTaken` -/

@[simp] theorem State.drawTaken_widths : (s.drawTaken).widths = s.widths := rfl
@[simp] theorem State.drawTaken_buf : (s.drawTaken).buf = s.buf := rfl
@[simp] theorem State.drawTaken_activeByte : (s.drawTaken).activeByte = s.activeByte := rfl
@[simp] theorem State.drawTaken_bitIndex : (s.drawTaken).bitIndex = s.bitIndex := rfl
@[simp] theorem State.drawTaken_data : (s.drawTaken).data = s.data := rfl
@[simp] theorem State.drawTaken_dataSize : (s.drawTaken).dataSize = s.dataSize := rfl
@[simp] theorem State.drawTaken_dataIndex : (s.drawTaken).dataIndex = s.dataIndex := rfl
@[simp] theorem State.drawTaken_writingAddress : (s.drawTaken).writingAddress = s.writingAddress := rfl
@[simp] theorem State.drawTaken_lastFrame : (s.drawTaken).lastFrame = s.lastFrame := rfl
@[simp] theorem State.drawTaken_lastOperationWasWrite : (s.drawTaken).lastOperationWasWrite = s.lastOperationWasWrite := rfl
@[simp] theorem State.drawTaken_acknowledgeBit : (s.drawTaken).acknowledgeBit = s.acknowledgeBit := rfl
@[simp] theorem State.drawTaken_acknowledgeError : (s.drawTaken).acknowledgeError = s.acknowledgeError := rfl
@[simp] theorem State.drawTaken_step : (s.drawTaken).step = s.step := rfl
@[simp] theorem State.drawTaken_sampledBit : (s.drawTaken).sampledBit = s.sampledBit := rfl
@[simp] theorem State.drawTaken_cfgAddress : (s.drawTaken).cfgAddress = s.cfgAddress := rfl
@[simp] theorem State.drawTaken_cfgFrame : (s.drawTaken).cfgFrame = s.cfgFrame := rfl
@[simp] theorem State.drawTaken_sda : (s.drawTaken).sda = s.sda := rfl
@[simp] theorem State.drawTaken_scl : (s.drawTaken).scl = s.scl := rfl
@[simp] theorem State.drawTaken_timerArmed : (s.drawTaken).timerArmed = s.timerArmed := rfl
@[simp] theorem State.drawTaken_faults : (s.drawTaken).faults = s.faults := rfl
@[simp] theorem State.drawTaken_signalLog : (s.drawTaken).signalLog = s.signalLog := rfl
@[simp] theorem State.drawTaken_pinCallLog : (s.drawTaken).pinCallLog = s.pinCallLog := rfl
@[simp] theorem State.drawTaken_hostMoves : (s.drawTaken).hostMoves = s.hostMoves := rfl
@[simp] theorem State.drawTaken_envDraws : (s.drawTaken).envDraws = s.envDraws.drop 1 := rfl
@[simp] theorem State.drawTaken_samplesTaken : (s.drawTaken).samplesTaken = s.samplesTaken + 1 := rfl

/-! `State.emit` -/

@[simp] theorem State.emit_widths (g : Signal) : (s.emit g).widths = s.widths := rfl
@[simp] theorem State.emit_buf (g : Signal) : (s.emit g).buf = s.buf := rfl
@[simp] theorem State.emit_activeByte (g : Signal) : (s.emit g).activeByte = s.activeByte := rfl
@[simp] theorem State.emit_bitIndex (g : Signal) : (s.emit g).bitIndex = s.bitIndex := rfl
@[simp] theorem State.emit_data (g : Signal) : (s.emit g).data = s.data := rfl
@[simp] theorem State.emit_dataSize (g : Signal) : (s.emit g).dataSize = s.dataSize := rfl
@[simp] theorem State.emit_dataIndex (g : Signal) : (s.emit g).dataIndex = s.dataIndex := rfl
@[simp] theorem State.emit_writingAddress (g : Signal) : (s.emit g).writingAddress = s.writingAddress := rfl
@[simp] theorem State.emit_lastFrame (g : Signal) : (s.emit g).lastFrame = s.lastFrame := rfl
@[simp] theorem State.emit_lastOperationWasWrite (g : Signal) : (s.emit g).lastOperationWasWrite = s.lastOperationWasWrite := rfl
@[simp] theorem State.emit_acknowledgeBit (g : Signal) : (s.emit g).acknowledgeBit = s.acknowledgeBit := rfl
@[simp] theorem State.emit_acknowledgeError (g : Signal) : (s.emit g).acknowledgeError = s.acknowledgeError := rfl
@[simp] theorem State.emit_step (g : Signal) : (s.emit g).step = s.step := rfl
@[simp] theorem State.emit_sampledBit (g : Signal) : (s.emit g).sampledBit = s.sampledBit := rfl
@[simp] theorem State.emit_cfgAddress (g : Signal) : (s.emit g).cfgAddress = s.cfgAddress := rfl
@[simp] theorem State.emit_cfgFrame (g : Signal) : (s.emit g).cfgFrame = s.cfgFrame := rfl
@[simp] theorem State.emit_sda (g : Signal) : (s.emit g).sda = s.sda := rfl
@[simp] theorem State.emit_scl (g : Signal) : (s.emit g).scl = s.scl := rfl
@[simp] theorem State.emit_timerArmed (g : Signal) : (s.emit g).timerArmed = s.timerArmed := rfl
@[simp] theorem State.emit_faults (g : Signal) : (s.emit g).faults = s.faults := rfl
@[simp] theorem State.emit_signalLog (g : Signal) : (s.emit g).signalLog = s.signalLog ++ [g] := rfl
@[simp] theorem State.emit_pinCallLog (g : Signal) : (s.emit g).pinCallLog = s.pinCallLog := rfl
@[simp] theorem State.emit_hostMoves (g : Signal) : (s.emit g).hostMoves = s.hostMoves := rfl
@[simp] theorem State.emit_envDraws (g : Signal) : (s.emit g).envDraws = s.envDraws := rfl
@[simp] theorem State.emit_samplesTaken (g : Signal) : (s.emit g).samplesTaken = s.samplesTaken := rfl

/-! `State.goto` -/

@[simp] theorem State.goto_widths (k : StepCode) : (s.goto k).widths = s.widths := rfl
@[simp] theorem State.goto_buf (k : StepCode) : (s.goto k).buf = s.buf := rfl
@[simp] theorem State.goto_activeByte (k : StepCode) : (s.goto k).activeByte = s.activeByte := rfl
@[simp] theorem State.goto_bitIndex (k : StepCode) : (s.goto k).bitIndex = s.bitIndex := rfl
@[simp] theorem State.goto_data (k : StepCode) : (s.goto k).data = s.data := rfl
@[simp] theorem State.goto_dataSize (k : StepCode) : (s.goto k).dataSize = s.dataSize := rfl
@[simp] theorem State.goto_dataIndex (k : StepCode) : (s.goto k).dataIndex = s.dataIndex := rfl
@[simp] theorem State.goto_writingAddress (k : StepCode) : (s.goto k).writingAddress = s.writingAddress := rfl
@[simp] theorem State.goto_lastFrame (k : StepCode) : (s.goto k).lastFrame = s.lastFrame := rfl
@[simp] theorem State.goto_lastOperationWasWrite (k : StepCode) : (s.goto k).lastOperationWasWrite = s.lastOperationWasWrite := rfl
@[simp] theorem State.goto_acknowledgeBit (k : StepCode) : (s.goto k).acknowledgeBit = s.acknowledgeBit := rfl
@[simp] theorem State.goto_acknowledgeError (k : StepCode) : (s.goto k).acknowledgeError = s.acknowledgeError := rfl
@[simp] theorem State.goto_step (k : StepCode) : (s.goto k).step = k := rfl
@[simp] theorem State.goto_sampledBit (k : StepCode) : (s.goto k).sampledBit = s.sampledBit := rfl
@[simp] theorem State.goto_cfgAddress (k : StepCode) : (s.goto k).cfgAddress = s.cfgAddress := rfl
@[simp] theorem State.goto_cfgFrame (k : StepCode) : (s.goto k).cfgFrame = s.cfgFrame := rfl
@[simp] theorem State.goto_sda (k : StepCode) : (s.goto k).sda = s.sda := rfl
@[simp] theorem State.goto_scl (k : StepCode) : (s.goto k).scl = s.scl := rfl
@[simp] theorem State.goto_timerArmed (k : StepCode) : (s.goto k).timerArmed = true := rfl
@[simp] theorem State.goto_faults (k : StepCode) : (s.goto k).faults = s.faults := rfl
@[simp] theorem State.goto_signalLog (k : StepCode) : (s.goto k).signalLog = s.signalLog := rfl
@[simp] theorem State.goto_pinCallLog (k : StepCode) : (s.goto k).pinCallLog = s.pinCallLog ++ [.timerStart] := rfl
@[simp] theorem State.goto_hostMoves (k : StepCode) : (s.goto k).hostMoves = s.hostMoves := rfl
@[simp] theorem State.goto_envDraws (k : StepCode) : (s.goto k).envDraws = s.envDraws := rfl
@[simp] theorem State.goto_samplesTaken (k : StepCode) : (s.goto k).samplesTaken = s.samplesTaken := rfl

/-! `State.rest` -/

@[simp] theorem State.rest_widths : (s.rest).widths = s.widths := rfl
@[simp] theorem State.rest_buf : (s.rest).buf = s.buf := rfl
@[simp] theorem State.rest_activeByte : (s.rest).activeByte = s.activeByte := rfl
@[simp] theorem State.rest_bitIndex : (s.rest).bitIndex = s.bitIndex := rfl
@[simp] theorem State.rest_data : (s.rest).data = s.data := rfl
@[simp] theorem State.rest_dataSize : (s.rest).dataSize = s.dataSize := rfl
@[simp] theorem State.rest_dataIndex : (s.rest).dataIndex = s.dataIndex := rfl
@[simp] theorem State.rest_writingAddress : (s.rest).writingAddress = s.writingAddress := rfl
@[simp] theorem State.rest_lastFrame : (s.rest).lastFrame = s.lastFrame := rfl
@[simp] theorem State.rest_lastOperationWasWrite : (s.rest).lastOperationWasWrite = s.lastOperationWasWrite := rfl
@[simp] theorem State.rest_acknowledgeBit : (s.rest).acknowledgeBit = s.acknowledgeBit := rfl
@[simp] theorem State.rest_acknowledgeError : (s.rest).acknowledgeError = s.acknowledgeError := rfl
@[simp] theorem State.rest_step : (s.rest).step = 0x00 := rfl
@[simp] theorem State.rest_sampledBit : (s.rest).sampledBit = s.sampledBit := rfl
@[simp] theorem State.rest_cfgAddress : (s.rest).cfgAddress = s.cfgAddress := rfl
@[simp] theorem State.rest_cfgFrame : (s.rest).cfgFrame = s.cfgFrame := rfl
@[simp] theorem State.rest_sda : (s.rest).sda = s.sda := rfl
@[simp] theorem State.rest_scl : (s.rest).scl = s.scl := rfl
@[simp] theorem State.rest_timerArmed : (s.rest).timerArmed = s.timerArmed := rfl
@[simp] theorem State.rest_faults : (s.rest).faults = s.faults := rfl
@[simp] theorem State.rest_signalLog : (s.rest).signalLog = s.signalLog := rfl
@[simp] theorem State.rest_pinCallLog : (s.rest).pinCallLog = s.pinCallLog := rfl
@[simp] theorem State.rest_hostMoves : (s.rest).hostMoves = s.hostMoves := rfl
@[simp] theorem State.rest_envDraws : (s.rest).envDraws = s.envDraws := rfl
@[simp] theorem State.rest_samplesTaken : (s.rest).samplesTaken = s.samplesTaken := rfl

/-! `State.mark` -/

@[simp] theorem State.mark_widths (m : Mark) : (s.mark m).widths = s.widths := rfl
@[simp] theorem State.mark_buf (m : Mark) : (s.mark m).buf = s.buf := rfl
@[simp] theorem State.mark_activeByte (m : Mark) : (s.mark m).activeByte = s.activeByte := rfl
@[simp] theorem State.mark_bitIndex (m : Mark) : (s.mark m).bitIndex = s.bitIndex := rfl
@[simp] theorem State.mark_data (m : Mark) : (s.mark m).data = s.data := rfl
@[simp] theorem State.mark_dataSize (m : Mark) : (s.mark m).dataSize = s.dataSize := rfl
@[simp] theorem State.mark_dataIndex (m : Mark) : (s.mark m).dataIndex = s.dataIndex := rfl
@[simp] theorem State.mark_writingAddress (m : Mark) : (s.mark m).writingAddress = s.writingAddress := rfl
@[simp] theorem State.mark_lastFrame (m : Mark) : (s.mark m).lastFrame = s.lastFrame := rfl
@[simp] theorem State.mark_lastOperationWasWrite (m : Mark) : (s.mark m).lastOperationWasWrite = s.lastOperationWasWrite := rfl
@[simp] theorem State.mark_acknowledgeBit (m : Mark) : (s.mark m).acknowledgeBit = s.acknowledgeBit := rfl
@[simp] theorem State.mark_acknowledgeError (m : Mark) : (s.mark m).acknowledgeError = s.acknowledgeError := rfl
@[simp] theorem State.mark_step (m : Mark) : (s.mark m).step = s.step := rfl
@[simp] theorem State.mark_sampledBit (m : Mark) : (s.mark m).sampledBit = s.sampledBit := rfl
@[simp] theorem State.mark_cfgAddress (m : Mark) : (s.mark m).cfgAddress = s.cfgAddress := rfl
@[simp] theorem State.mark_cfgFrame (m : Mark) : (s.mark m).cfgFrame = s.cfgFrame := rfl
@[simp] theorem State.mark_sda (m : Mark) : (s.mark m).sda = s.sda := rfl
@[simp] theorem State.mark_scl (m : Mark) : (s.mark m).scl = s.scl := rfl
@[simp] theorem State.mark_timerArmed (m : Mark) : (s.mark m).timerArmed = s.timerArmed := rfl
@[simp] theorem State.mark_faults (m : Mark) : (s.mark m).faults = if m ∈ s.faults then s.faults else s.faults ++ [m] := rfl
@[simp] theorem State.mark_signalLog (m : Mark) : (s.mark m).signalLog = s.signalLog := rfl
@[simp] theorem State.mark_pinCallLog (m : Mark) : (s.mark m).pinCallLog = s.pinCallLog := rfl
@[simp] theorem State.mark_hostMoves (m : Mark) : (s.mark m).hostMoves = s.hostMoves := rfl
@[simp] theorem State.mark_envDraws (m : Mark) : (s.mark m).envDraws = s.envDraws := rfl
@[simp] theorem State.mark_samplesTaken (m : Mark) : (s.mark m).samplesTaken = s.samplesTaken := rfl

/-! `State.clearContext` -/

@[simp] theorem State.clearContext_widths : (s.clearContext).widths = s.widths := rfl
@[simp] theorem State.clearContext_buf : (s.clearContext).buf = s.buf := rfl
@[simp] theorem State.clearContext_activeByte : (s.clearContext).activeByte = s.activeByte := rfl
@[simp] theorem State.clearContext_bitIndex : (s.clearContext).bitIndex = s.bitIndex := rfl
@[simp] theorem State.clearContext_data : (s.clearContext).data = none := rfl
@[simp] theorem State.clearContext_dataSize : (s.clearContext).dataSize = 0 := rfl
@[simp] theorem State.clearContext_dataIndex : (s.clearContext).dataIndex = 0 := rfl
@[simp] theorem State.clearContext_writingAddress : (s.clearContext).writingAddress = s.writingAddress := rfl
@[simp] theorem State.clearContext_lastFrame : (s.clearContext).lastFrame = s.lastFrame := rfl
@[simp] theorem State.clearContext_lastOperationWasWrite : (s.clearContext).lastOperationWasWrite = s.lastOperationWasWrite := rfl
@[simp] theorem State.clearContext_acknowledgeBit : (s.clearContext).acknowledgeBit = s.acknowledgeBit := rfl
@[simp] theorem State.clearContext_acknowledgeError : (s.clearContext).acknowledgeError = s.acknowledgeError := rfl
@[simp] theorem State.clearContext_step : (s.clearContext).step = s.step := rfl
@[simp] theorem State.clearContext_sampledBit : (s.clearContext).sampledBit = s.sampledBit := rfl
@[simp] theorem State.clearContext_cfgAddress : (s.clearContext).cfgAddress = s.cfgAddress := rfl
@[simp] theorem State.clearContext_cfgFrame : (s.clearContext).cfgFrame = s.cfgFrame := rfl
@[simp] theorem State.clearContext_sda : (s.clearContext).sda = s.sda := rfl
@[simp] theorem State.clearContext_scl : (s.clearContext).scl = s.scl := rfl
@[simp] theorem State.clearContext_timerArmed : (s.clearContext).timerArmed = s.timerArmed := rfl
@[simp] theorem State.clearContext_faults : (s.clearContext).faults = s.faults := rfl
@[simp] theorem State.clearContext_signalLog : (s.clearContext).signalLog = s.signalLog := rfl
@[simp] theorem State.clearContext_pinCallLog : (s.clearContext).pinCallLog = s.pinCallLog := rfl
@[simp] theorem State.clearContext_hostMoves : (s.clearContext).hostMoves = s.hostMoves := rfl
@[simp] theorem State.clearContext_envDraws : (s.clearContext).envDraws = s.envDraws := rfl
@[simp] theorem State.clearContext_samplesTaken : (s.clearContext).samplesTaken = s.samplesTaken := rfl

/-! `State.resetContext` -/

@[simp] theorem State.resetContext_widths : (s.resetContext).widths = s.widths := rfl
@[simp] theorem State.resetContext_buf : (s.resetContext).buf = s.buf := rfl
@[simp] theorem State.resetContext_activeByte : (s.resetContext).activeByte = 0 := rfl
@[simp] theorem State.resetContext_bitIndex : (s.resetContext).bitIndex = 7 := rfl
@[simp] theorem State.resetContext_data : (s.resetContext).data = none := rfl
@[simp] theorem State.resetContext_dataSize : (s.resetContext).dataSize = 0 := rfl
@[simp] theorem State.resetContext_dataIndex : (s.resetContext).dataIndex = 0 := rfl
@[simp] theorem State.resetContext_writingAddress : (s.resetContext).writingAddress = false := rfl
@[simp] theorem State.resetContext_lastFrame : (s.resetContext).lastFrame = .firstAndLast := rfl
@[simp] theorem State.resetContext_lastOperationWasWrite : (s.resetContext).lastOperationWasWrite = false := rfl
@[simp] theorem State.resetContext_acknowledgeBit : (s.resetContext).acknowledgeBit = false := rfl
@[simp] theorem State.resetContext_acknowledgeError : (s.resetContext).acknowledgeError = false := rfl
@[simp] theorem State.resetContext_step : (s.resetContext).step = 0x00 := rfl
@[simp] theorem State.resetContext_sampledBit : (s.resetContext).sampledBit = false := rfl
@[simp] theorem State.resetContext_cfgAddress : (s.resetContext).cfgAddress = s.cfgAddress := rfl
@[simp] theorem State.resetContext_cfgFrame : (s.resetContext).cfgFrame = s.cfgFrame := rfl
@[simp] theorem State.resetContext_sda : (s.resetContext).sda = s.sda := rfl
@[simp] theorem State.resetContext_scl : (s.resetContext).scl = s.scl := rfl
@[simp] theorem State.resetContext_timerArmed : (s.resetContext).timerArmed = s.timerArmed := rfl
@[simp] theorem State.resetContext_faults : (s.resetContext).faults = s.faults := rfl
@[simp] theorem State.resetContext_signalLog : (s.resetContext).signalLog = s.signalLog := rfl
@[simp] theorem State.resetContext_pinCallLog : (s.resetContext).pinCallLog = s.pinCallLog := rfl
@[simp] theorem State.resetContext_hostMoves : (s.resetContext).hostMoves = s.hostMoves := rfl
@[simp] theorem State.resetContext_envDraws : (s.resetContext).envDraws = s.envDraws := rfl
@[simp] theorem State.resetContext_samplesTaken : (s.resetContext).samplesTaken = s.samplesTaken := rfl

/-! `State.enterErrorPath` -/

@[simp] theorem State.enterErrorPath_widths : (s.enterErrorPath).widths = s.widths := rfl
@[simp] theorem State.enterErrorPath_buf : (s.enterErrorPath).buf = s.buf := rfl
@[simp] theorem State.enterErrorPath_activeByte : (s.enterErrorPath).activeByte = s.activeByte := rfl
@[simp] theorem State.enterErrorPath_bitIndex : (s.enterErrorPath).bitIndex = s.bitIndex := rfl
@[simp] theorem State.enterErrorPath_data : (s.enterErrorPath).data = s.data := rfl
@[simp] theorem State.enterErrorPath_dataSize : (s.enterErrorPath).dataSize = s.dataSize := rfl
@[simp] theorem State.enterErrorPath_dataIndex : (s.enterErrorPath).dataIndex = s.dataIndex := rfl
@[simp] theorem State.enterErrorPath_writingAddress : (s.enterErrorPath).writingAddress = s.writingAddress := rfl
@[simp] theorem State.enterErrorPath_lastFrame : (s.enterErrorPath).lastFrame = s.lastFrame := rfl
@[simp] theorem State.enterErrorPath_lastOperationWasWrite : (s.enterErrorPath).lastOperationWasWrite = s.lastOperationWasWrite := rfl
@[simp] theorem State.enterErrorPath_acknowledgeBit : (s.enterErrorPath).acknowledgeBit = s.acknowledgeBit := rfl
@[simp] theorem State.enterErrorPath_acknowledgeError : (s.enterErrorPath).acknowledgeError = true := rfl
@[simp] theorem State.enterErrorPath_step : (s.enterErrorPath).step = 0x0F := rfl
@[simp] theorem State.enterErrorPath_sampledBit : (s.enterErrorPath).sampledBit = s.sampledBit := rfl
@[simp] theorem State.enterErrorPath_cfgAddress : (s.enterErrorPath).cfgAddress = s.cfgAddress := rfl
@[simp] theorem State.enterErrorPath_cfgFrame : (s.enterErrorPath).cfgFrame = s.cfgFrame := rfl
@[simp] theorem State.enterErrorPath_sda : (s.enterErrorPath).sda = s.sda := rfl
@[simp] theorem State.enterErrorPath_scl : (s.enterErrorPath).scl = s.scl := rfl
@[simp] theorem State.enterErrorPath_timerArmed : (s.enterErrorPath).timerArmed = true := rfl
@[simp] theorem State.enterErrorPath_faults : (s.enterErrorPath).faults = s.faults := rfl
@[simp] theorem State.enterErrorPath_signalLog : (s.enterErrorPath).signalLog = s.signalLog := rfl
@[simp] theorem State.enterErrorPath_pinCallLog : (s.enterErrorPath).pinCallLog = s.pinCallLog ++ [.timerStart] := rfl
@[simp] theorem State.enterErrorPath_hostMoves : (s.enterErrorPath).hostMoves = s.hostMoves := rfl
@[simp] theorem State.enterErrorPath_envDraws : (s.enterErrorPath).envDraws = s.envDraws := rfl
@[simp] theorem State.enterErrorPath_samplesTaken : (s.enterErrorPath).samplesTaken = s.samplesTaken := rfl

/-! `State.beginAddressByte` -/

@[simp] theorem State.beginAddressByte_widths (rw : Bool) : (s.beginAddressByte rw).widths = s.widths := rfl
@[simp] theorem State.beginAddressByte_buf (rw : Bool) : (s.beginAddressByte rw).buf = s.buf := rfl
@[simp] theorem State.beginAddressByte_activeByte (rw : Bool) : (s.beginAddressByte rw).activeByte = addressByte s.cfgAddress rw := rfl
@[simp] theorem State.beginAddressByte_bitIndex (rw : Bool) : (s.beginAddressByte rw).bitIndex = 7 := rfl
@[simp] theorem State.beginAddressByte_data (rw : Bool) : (s.beginAddressByte rw).data = s.data := rfl
@[simp] theorem State.beginAddressByte_dataSize (rw : Bool) : (s.beginAddressByte rw).dataSize = s.dataSize := rfl
@[simp] theorem State.beginAddressByte_dataIndex (rw : Bool) : (s.beginAddressByte rw).dataIndex = s.dataIndex := rfl
@[simp] theorem State.beginAddressByte_writingAddress (rw : Bool) : (s.beginAddressByte rw).writingAddress = true := rfl
@[simp] theorem State.beginAddressByte_lastFrame (rw : Bool) : (s.beginAddressByte rw).lastFrame = s.lastFrame := rfl
@[simp] theorem State.beginAddressByte_lastOperationWasWrite (rw : Bool) : (s.beginAddressByte rw).lastOperationWasWrite = s.lastOperationWasWrite := rfl
@[simp] theorem State.beginAddressByte_acknowledgeBit (rw : Bool) : (s.beginAddressByte rw).acknowledgeBit = s.acknowledgeBit := rfl
@[simp] theorem State.beginAddressByte_acknowledgeError (rw : Bool) : (s.beginAddressByte rw).acknowledgeError = s.acknowledgeError := rfl
@[simp] theorem State.beginAddressByte_step (rw : Bool) : (s.beginAddressByte rw).step = s.step := rfl
@[simp] theorem State.beginAddressByte_sampledBit (rw : Bool) : (s.beginAddressByte rw).sampledBit = s.sampledBit := rfl
@[simp] theorem State.beginAddressByte_cfgAddress (rw : Bool) : (s.beginAddressByte rw).cfgAddress = s.cfgAddress := rfl
@[simp] theorem State.beginAddressByte_cfgFrame (rw : Bool) : (s.beginAddressByte rw).cfgFrame = s.cfgFrame := rfl
@[simp] theorem State.beginAddressByte_sda (rw : Bool) : (s.beginAddressByte rw).sda = s.sda := rfl
@[simp] theorem State.beginAddressByte_scl (rw : Bool) : (s.beginAddressByte rw).scl = s.scl := rfl
@[simp] theorem State.beginAddressByte_timerArmed (rw : Bool) : (s.beginAddressByte rw).timerArmed = s.timerArmed := rfl
@[simp] theorem State.beginAddressByte_faults (rw : Bool) : (s.beginAddressByte rw).faults = s.faults := rfl
@[simp] theorem State.beginAddressByte_signalLog (rw : Bool) : (s.beginAddressByte rw).signalLog = s.signalLog := rfl
@[simp] theorem State.beginAddressByte_pinCallLog (rw : Bool) : (s.beginAddressByte rw).pinCallLog = s.pinCallLog := rfl
@[simp] theorem State.beginAddressByte_hostMoves (rw : Bool) : (s.beginAddressByte rw).hostMoves = s.hostMoves := rfl
@[simp] theorem State.beginAddressByte_envDraws (rw : Bool) : (s.beginAddressByte rw).envDraws = s.envDraws := rfl
@[simp] theorem State.beginAddressByte_samplesTaken (rw : Bool) : (s.beginAddressByte rw).samplesTaken = s.samplesTaken := rfl

/-! `State.beginReadByte` -/

@[simp] theorem State.beginReadByte_widths : (s.beginReadByte).widths = s.widths := rfl
@[simp] theorem State.beginReadByte_buf : (s.beginReadByte).buf = s.buf := rfl
@[simp] theorem State.beginReadByte_activeByte : (s.beginReadByte).activeByte = 0 := rfl
@[simp] theorem State.beginReadByte_bitIndex : (s.beginReadByte).bitIndex = 7 := rfl
@[simp] theorem State.beginReadByte_data : (s.beginReadByte).data = s.data := rfl
@[simp] theorem State.beginReadByte_dataSize : (s.beginReadByte).dataSize = s.dataSize := rfl
@[simp] theorem State.beginReadByte_dataIndex : (s.beginReadByte).dataIndex = s.dataIndex := rfl
@[simp] theorem State.beginReadByte_writingAddress : (s.beginReadByte).writingAddress = s.writingAddress := rfl
@[simp] theorem State.beginReadByte_lastFrame : (s.beginReadByte).lastFrame = s.lastFrame := rfl
@[simp] theorem State.beginReadByte_lastOperationWasWrite : (s.beginReadByte).lastOperationWasWrite = s.lastOperationWasWrite := rfl
@[simp] theorem State.beginReadByte_acknowledgeBit : (s.beginReadByte).acknowledgeBit = s.acknowledgeBit := rfl
@[simp] theorem State.beginReadByte_acknowledgeError : (s.beginReadByte).acknowledgeError = s.acknowledgeError := rfl
@[simp] theorem State.beginReadByte_step : (s.beginReadByte).step = 0x0A := rfl
@[simp] theorem State.beginReadByte_sampledBit : (s.beginReadByte).sampledBit = s.sampledBit := rfl
@[simp] theorem State.beginReadByte_cfgAddress : (s.beginReadByte).cfgAddress = s.cfgAddress := rfl
@[simp] theorem State.beginReadByte_cfgFrame : (s.beginReadByte).cfgFrame = s.cfgFrame := rfl
@[simp] theorem State.beginReadByte_sda : (s.beginReadByte).sda = s.sda := rfl
@[simp] theorem State.beginReadByte_scl : (s.beginReadByte).scl = s.scl := rfl
@[simp] theorem State.beginReadByte_timerArmed : (s.beginReadByte).timerArmed = s.timerArmed := rfl
@[simp] theorem State.beginReadByte_faults : (s.beginReadByte).faults = s.faults := rfl
@[simp] theorem State.beginReadByte_signalLog : (s.beginReadByte).signalLog = s.signalLog := rfl
@[simp] theorem State.beginReadByte_pinCallLog : (s.beginReadByte).pinCallLog = s.pinCallLog := rfl
@[simp] theorem State.beginReadByte_hostMoves : (s.beginReadByte).hostMoves = s.hostMoves := rfl
@[simp] theorem State.beginReadByte_envDraws : (s.beginReadByte).envDraws = s.envDraws := rfl
@[simp] theorem State.beginReadByte_samplesTaken : (s.beginReadByte).samplesTaken = s.samplesTaken := rfl

end Sys2Proof.Machine
end

