-- ==== Sys2Proof/Laws/Ops.lean ====
section
/-!
SUPPORT. One lemma per shared operation that says everything it can do, and the inversion of `step`.
-/

namespace Sys2Proof.Machine

/-- A sequence that answers has answered at its first part. -/
theorem andThen_next {α β : Type} {o : Host.Outcome α Fault Refusal}
    {k : α → Host.Outcome β Fault Refusal} {b : β} :
    andThen o k = .next b ↔ ∃ a, o = .next a ∧ k a = .next b := by
  cases o <;> simp [andThen]

@[simp] theorem andThen_of_next {α β : Type} (a : α) (k : α → Host.Outcome β Fault Refusal) :
    andThen (.next a) k = k a := rfl

@[simp] theorem andThen_of_fault {α β : Type} (f : Fault) (k : α → Host.Outcome β Fault Refusal) :
    andThen (.fault f) k = .fault f := rfl

/-- The marks after an entry is added (R42). -/
theorem State.mem_mark {s : State} {m x : Mark} : x ∈ (s.mark m).faults ↔ x ∈ s.faults ∨ x = m := by
  by_cases h : m ∈ s.faults
  · simp only [State.mark, h, if_true]
    exact ⟨.inl, fun hx => hx.elim id fun hx => hx ▸ h⟩
  · simp [State.mark, h]

/-- Adding a mark changes nothing else (R42). -/
theorem State.markedBy_mark (s : State) (m : Mark) : s.MarkedBy (s.mark m) m :=
  ⟨rfl, fun _ => State.mem_mark⟩

/-- The host's store, where it has one, is enabled by an idle engine alone (R70, R71). -/
theorem State.hostMayStore_iff {s : State} {addr : Nat} :
    s.hostMayStore addr = true ↔ s.step = 0x00 ∧ addr < 2 ^ s.widths.aw := by
  simp [State.hostMayStore, State.busy]

/-- InitBus as one record update (R200). -/
theorem State.initBus_eq (s : State) : s.initBus = { s with
    activeByte := 0, bitIndex := 7, sampledBit := false, data := none, dataSize := 0, dataIndex := 0,
    writingAddress := false, acknowledgeBit := false, acknowledgeError := false,
    lastFrame := .firstAndLast, lastOperationWasWrite := false, step := 0x00, timerArmed := false,
    sda := { dir := .outputOpenDrain, latch := true }, scl := { dir := .outputOpenDrain, latch := true },
    pinCallLog := s.pinCallLog ++ [.timerStop, .scl .set, .sda .set,
      .scl (.setDirection .outputOpenDrain), .sda (.setDirection .outputOpenDrain)] } := by
  simp [State.initBus, State.timerStop, State.sclSet, State.sdaSet, State.sclSetDirection,
    State.sdaSetDirection, State.logCall, State.resetContext]

/-- DeinitBus as one record update (R199). -/
theorem State.deinitBus_eq (s : State) : s.deinitBus = { s with
    sda := { s.sda with dir := .input }, scl := { s.scl with dir := .input },
    pinCallLog := s.pinCallLog ++ [.scl (.setDirection .input), .sda (.setDirection .input)] } := by
  simp [State.deinitBus, State.sclSetDirection, State.sdaSetDirection, State.logCall]

/-- A sample answers the wire's level, logs it and uses up one draw (R114, R117). -/
theorem State.sdaSample_spec {s t : State} {v : Bool} (h : s.sdaSample = .next (v, t)) :
    v = s.sdaWire s.envLowSda ∧ t = { s with
      envDraws := s.envDraws.drop 1, samplesTaken := s.samplesTaken + 1,
      pinCallLog := s.pinCallLog ++ [.sda (.state (s.sdaWire s.envLowSda))] } := by
  unfold State.sdaSample at h
  split at h
  · cases h
  · injection h with h
    injection h with h1 h2
    exact ⟨h1.symm, h2.symm⟩

/-- A sample of a line that is not push-pull always answers (R115). -/
theorem State.sdaSample_of_dir {s : State} (h : s.sda.dir ≠ .outputPushPull) :
    s.sdaSample = .next (s.sdaWire s.envLowSda, { s with
      envDraws := s.envDraws.drop 1, samplesTaken := s.samplesTaken + 1,
      pinCallLog := s.pinCallLog ++ [.sda (.state (s.sdaWire s.envLowSda))] }) := by
  simp [State.sdaSample, State.sdaContends, h, State.drawTaken, State.logCall]

/-- The payload address is `data + dataIndex` wherever it exists (R25). -/
theorem State.payloadAddress_spec {s : State} {a : Nat} (h : s.payloadAddress = .next a) :
    ∃ d, s.data = some d ∧ a = d + s.dataIndex := by
  unfold State.payloadAddress at h
  split at h
  · rename_i d hd
    injection h with h
    exact ⟨d, hd, h.symm⟩
  · cases h

/-- BeginWriteByte loads the payload byte from `BUF` and begins its first bit (R150, R61). -/
theorem State.beginWriteByte_spec {s t : State} (h : s.beginWriteByte = .next t) :
    ∃ d, s.data = some d ∧ d + s.dataIndex < 2 ^ s.widths.aw ∧ t = { s with
      activeByte := s.byteAt (d + s.dataIndex), bitIndex := 7, step := 0x05 } := by
  unfold State.beginWriteByte at h
  obtain ⟨a, ha, h⟩ := andThen_next.mp h
  obtain ⟨v, hv, h⟩ := andThen_next.mp h
  obtain ⟨d, hd, rfl⟩ := State.payloadAddress_spec ha
  obtain ⟨hlt, rfl⟩ := State.memRead_spec hv
  injection h with h
  exact ⟨d, hd, hlt, h.symm⟩

/-- BeginWriteByte answers wherever the payload byte exists. -/
theorem State.beginWriteByte_of {s : State} {d : Nat} (hd : s.data = some d)
    (hlt : d + s.dataIndex < 2 ^ s.widths.aw) : s.beginWriteByte = .next { s with
      activeByte := s.byteAt (d + s.dataIndex), bitIndex := 7, step := 0x05 } := by
  simp [State.beginWriteByte, State.payloadAddress, hd, State.memRead, hlt, State.byteAt]

/-- The store of a received byte writes one byte of `BUF` and nothing else (R62). -/
theorem State.storeReceived_spec {s t : State} (h : s.storeReceived = .next t) :
    ∃ d, s.data = some d ∧ d + s.dataIndex < 2 ^ s.widths.aw ∧
      t = { s with buf := Memory.write s.buf (d + s.dataIndex) s.activeByte } := by
  unfold State.storeReceived at h
  obtain ⟨a, ha, h⟩ := andThen_next.mp h
  obtain ⟨d, hd, rfl⟩ := State.payloadAddress_spec ha
  obtain ⟨hlt, ht⟩ := State.memWrite_spec h
  exact ⟨d, hd, hlt, ht⟩

/-- The store answers wherever the payload byte exists. -/
theorem State.storeReceived_of {s : State} {d : Nat} (hd : s.data = some d)
    (hlt : d + s.dataIndex < 2 ^ s.widths.aw) :
    s.storeReceived = .next { s with buf := Memory.write s.buf (d + s.dataIndex) s.activeByte } := by
  simp [State.storeReceived, State.payloadAddress, hd, State.memWrite, hlt]

/-- FinishAck, part 1: the three ways a byte is consumed (R176). -/
theorem State.finishAckConsume_cases {s t : State} (h : s.finishAckConsume = .next t) :
    (s.writingAddress = true ∧ t = { s with writingAddress := false }) ∨
    (s.writingAddress = false ∧ s.lastOperationWasWrite = true ∧
      t = { s with dataIndex := s.dataIndex + 1 }) ∨
    (s.writingAddress = false ∧ s.lastOperationWasWrite = false ∧ ∃ d, s.data = some d ∧
      d + s.dataIndex < 2 ^ s.widths.aw ∧ t = { s with
        buf := Memory.write s.buf (d + s.dataIndex) s.activeByte, dataIndex := s.dataIndex + 1 }) := by
  unfold State.finishAckConsume at h
  split at h
  · injection h with h
    exact .inl ⟨by assumption, h.symm⟩
  · split at h
    · injection h with h
      exact .inr (.inl ⟨by simp_all, by assumption, h.symm⟩)
    · obtain ⟨u, hu, h⟩ := andThen_next.mp h
      obtain ⟨d, hd, hlt, rfl⟩ := State.storeReceived_spec hu
      injection h with h
      exact .inr (.inr ⟨by simp_all, by simp_all, d, hd, hlt, h.symm⟩)

/-- FinishAck, part 2: the six ways a byte is followed (R177). -/
theorem State.finishAckDispatch_cases {s t : State} {kind : AckKind}
    (h : s.finishAckDispatch kind = .next t) :
    (s.nacked kind = true ∧ t = s.enterErrorPath) ∨
    (s.nacked kind = false ∧ s.dataIndex < s.dataSize ∧ s.lastOperationWasWrite = true ∧
      ∃ d, s.data = some d ∧ d + s.dataIndex < 2 ^ s.widths.aw ∧ t = ({ s with
        activeByte := s.byteAt (d + s.dataIndex), bitIndex := 7, step := 0x05 } : State).timerStart) ∨
    (s.nacked kind = false ∧ s.dataIndex < s.dataSize ∧ s.lastOperationWasWrite = false ∧
      t = s.beginReadByte.timerStart) ∨
    (s.nacked kind = false ∧ s.dataSize ≤ s.dataIndex ∧ endsWithStop s.lastFrame = true ∧
      t = s.goto 0x0F) ∨
    (s.nacked kind = false ∧ s.dataSize ≤ s.dataIndex ∧ endsWithStop s.lastFrame = false ∧
      t = s.rest.emit s.successSignal) := by
  unfold State.finishAckDispatch State.bytesPending at h
  split at h
  · injection h with h
    exact .inl ⟨by assumption, h.symm⟩
  · rename_i hn
    have hn : s.nacked kind = false := by simpa using hn
    split at h
    · rename_i hp
      have hp : s.dataIndex < s.dataSize := by simpa using hp
      split at h
      · obtain ⟨u, hu, h⟩ := andThen_next.mp h
        obtain ⟨d, hd, hlt, rfl⟩ := State.beginWriteByte_spec hu
        injection h with h
        exact .inr (.inl ⟨hn, hp, by assumption, d, hd, hlt, h.symm⟩)
      · injection h with h
        exact .inr (.inr (.inl ⟨hn, hp, by simp_all, h.symm⟩))
    · rename_i hp
      have hp : s.dataSize ≤ s.dataIndex := by simpa using hp
      unfold State.finishTransfer at h
      split at h
      · injection h with h
        exact .inr (.inr (.inr (.inl ⟨hn, hp, by assumption, h.symm⟩)))
      · injection h with h
        exact .inr (.inr (.inr (.inr ⟨hn, hp, by simp_all, h.symm⟩)))

/-- FinishAck's NACK case (R177). -/
theorem State.finishAckDispatch_nack {s : State} {kind : AckKind} (h : s.nacked kind = true) :
    s.finishAckDispatch kind = .next s.enterErrorPath := by
  simp [State.finishAckDispatch, h]

/-- FinishAck with a byte to send (R177). -/
theorem State.finishAckDispatch_send {s : State} {kind : AckKind} {d : Nat} (h : s.nacked kind = false)
    (hp : s.dataIndex < s.dataSize) (hl : s.lastOperationWasWrite = true) (hd : s.data = some d)
    (hlt : d + s.dataIndex < 2 ^ s.widths.aw) :
    s.finishAckDispatch kind = .next ({ s with
      activeByte := s.byteAt (d + s.dataIndex), bitIndex := 7, step := 0x05 } : State).timerStart := by
  simp [State.finishAckDispatch, h, State.bytesPending, hp, hl, State.beginWriteByte_of hd hlt]

/-- FinishAck with a byte to receive (R177). -/
theorem State.finishAckDispatch_receive {s : State} {kind : AckKind} (h : s.nacked kind = false)
    (hp : s.dataIndex < s.dataSize) (hl : s.lastOperationWasWrite = false) :
    s.finishAckDispatch kind = .next s.beginReadByte.timerStart := by
  simp [State.finishAckDispatch, h, State.bytesPending, hp, hl]

/-- FinishAck with all bytes through and a frame that stops (R177). -/
theorem State.finishAckDispatch_stop {s : State} {kind : AckKind} (h : s.nacked kind = false)
    (hp : s.dataSize ≤ s.dataIndex) (hf : endsWithStop s.lastFrame = true) :
    s.finishAckDispatch kind = .next (s.goto 0x0F) := by
  simp [State.finishAckDispatch, h, State.bytesPending, Nat.not_lt.mpr hp, State.finishTransfer, hf]

/-- FinishAck with all bytes through and a frame that holds the bus (R177). -/
theorem State.finishAckDispatch_hold {s : State} {kind : AckKind} (h : s.nacked kind = false)
    (hp : s.dataSize ≤ s.dataIndex) (hf : endsWithStop s.lastFrame = false) :
    s.finishAckDispatch kind = .next (s.rest.emit s.successSignal) := by
  simp [State.finishAckDispatch, h, State.bytesPending, Nat.not_lt.mpr hp, State.finishTransfer, hf]

/-- FinishAck is its two parts in turn (R176). -/
theorem State.finishAck_cases {s t : State} {kind : AckKind} (h : s.finishAck kind = .next t) :
    ∃ u, s.finishAckConsume = .next u ∧ u.finishAckDispatch kind = .next t := andThen_next.mp h

/-- Everything a transition that answers can be (R111): an admitted command, a fire, waiting in IDLE, or a
host store. -/
theorem step_cases {s t : State} (h : step s = .next t) :
    (∃ n c ms i, s.hostMoves = { afterFires := n, act := .command c } :: ms ∧
      decodeCommand s.widths c = .instr i ∧ exec i { s with hostMoves := ms } = .next t) ∨
    (∃ i, s.timerArmed = true ∧ stepOfCode s.step = some i ∧ i ≠ .idle ∧
      exec i { s with timerArmed := false, hostMoves := fireCounted s.hostMoves } = .next t) ∨
    (s.timerArmed = false ∧ s.hostMoves = [] ∧ s.step = 0x00 ∧ t = s) ∨
    (∃ n addr v ms, s.hostMoves = { afterFires := n, act := .store addr v } :: ms ∧
      addr < 2 ^ s.widths.aw ∧ s.step = 0x00 ∧
      t = { s with hostMoves := ms, buf := Memory.write s.buf addr v }) := by
  unfold step fetch at h
  split at h
  · rename_i i u hf
    split at hf
    · rename_i m ms _ hm
      unfold fetchHost at hf
      split at hf
      · rename_i c hc
        split at hf
        · injection hf with h1 h2
          subst h1 h2
          obtain ⟨n, a⟩ := m
          cases hc
          exact .inl ⟨n, c, ms, _, hm, by assumption, h⟩
        · cases hf
        · cases hf
        · cases hf
      · split at hf <;> cases hf
    · rename_i hno
      split at hf
      · unfold fetchFire at hf
        split at hf
        · cases hf
        · cases hf
        · rename_i j hj hne
          injection hf with h1 h2
          subst h1 h2
          exact .inr (.inl ⟨_, by assumption, hne, hj, h⟩)
      · rename_i ht
        unfold fetchWait State.busy at hf
        split at hf
        · cases hf
        · rename_i hb
          injection hf with h1 h2
          subst h1 h2
          have hs : s.step = 0x00 := by simpa using hb
          refine .inr (.inr (.inl ⟨by simpa using ht, ?_, hs, ?_⟩))
          · cases hm : s.hostMoves with
            | nil => rfl
            | cons m ms => exact absurd (by simp [State.hostFirst, hm, ht]) (hno m ms · hm)
          · injection h with h
            exact h.symm
  · rename_i u hf
    split at hf
    · rename_i m ms _ hm
      unfold fetchHost at hf
      split at hf
      · split at hf <;> cases hf
      · rename_i addr v hc
        split at hf
        · rename_i hok
          injection hf with hf
          injection h with h
          obtain ⟨n, a⟩ := m
          cases hc
          obtain ⟨hidle, hin⟩ := State.hostMayStore_iff.mp hok
          refine .inr (.inr (.inr ⟨n, addr, v, ms, hm, hin, hidle, ?_⟩))
          rw [← h, ← hf]
        · cases hf
    · split at hf
      · unfold fetchFire at hf
        split at hf <;> cases hf
      · unfold fetchWait at hf
        split at hf <;> cases hf
  · cases h
  · cases h

end Sys2Proof.Machine
end

