-- ==== Sys2Proof/Laws/Meanings.lean ====
section
/-!
SUPPORT. What each meaning that can stop, and FinishAck, does when it answers; and the step codes.
-/

namespace Sys2Proof

@[simp] theorem stepOfCode_idle : stepOfCode 0#5 = some .idle := by decide
@[simp] theorem stepOfCode_startSdaLow : stepOfCode 1#5 = some .startSdaLow := by decide
@[simp] theorem stepOfCode_startSclLow : stepOfCode 2#5 = some .startSclLow := by decide
@[simp] theorem stepOfCode_restartSdaHigh : stepOfCode 3#5 = some .restartSdaHigh := by decide
@[simp] theorem stepOfCode_restartSclHigh : stepOfCode 4#5 = some .restartSclHigh := by decide
@[simp] theorem stepOfCode_wbitSda : stepOfCode 5#5 = some .wbitSda := by decide
@[simp] theorem stepOfCode_wbitSclHigh : stepOfCode 6#5 = some .wbitSclHigh := by decide
@[simp] theorem stepOfCode_wbitSclLow : stepOfCode 7#5 = some .wbitSclLow := by decide
@[simp] theorem stepOfCode_cackSclHigh : stepOfCode 8#5 = some .cackSclHigh := by decide
@[simp] theorem stepOfCode_cackSclLow : stepOfCode 9#5 = some .cackSclLow := by decide
@[simp] theorem stepOfCode_rbitSclHigh : stepOfCode 10#5 = some .rbitSclHigh := by decide
@[simp] theorem stepOfCode_rbitSclLow : stepOfCode 11#5 = some .rbitSclLow := by decide
@[simp] theorem stepOfCode_sackSda : stepOfCode 12#5 = some .sackSda := by decide
@[simp] theorem stepOfCode_sackSclHigh : stepOfCode 13#5 = some .sackSclHigh := by decide
@[simp] theorem stepOfCode_sackSclLow : stepOfCode 14#5 = some .sackSclLow := by decide
@[simp] theorem stepOfCode_stopSdaLow : stepOfCode 15#5 = some .stopSdaLow := by decide
@[simp] theorem stepOfCode_stopSclHigh : stepOfCode 16#5 = some .stopSclHigh := by decide
@[simp] theorem stepOfCode_stopSdaHigh : stepOfCode 17#5 = some .stopSdaHigh := by decide

/-- A code names the step it encodes. -/
theorem stepOfCode_some {code : StepCode} {i : Instr} (h : stepOfCode code = some i) :
    encode i = .step code ∧ i.isStep = true := by
  have all : ∀ code : StepCode,
      (stepOfCode code).all (fun i => decide (encode i = .step code) && i.isStep) = true := by decide
  have := all code
  simpa [h] using this

namespace Machine

/-- CACK_SCL_LOW, where it answers: the sample, the line steps, and FinishAck's two parts (R172). -/
theorem execCackSclLow_cases {s t : State} (h : exec .cackSclLow s = .next t) :
  ∃ u v, s.sdaSample = .next (s.sdaWire s.envLowSda, u) ∧ u = { s with
      envDraws := s.envDraws.drop 1, samplesTaken := s.samplesTaken + 1,
      pinCallLog := s.pinCallLog ++ [.sda (.state (s.sdaWire s.envLowSda))] } ∧
    ({ u with acknowledgeBit := s.sdaWire s.envLowSda }.sclReset.sdaSetDirection
      .outputOpenDrain).finishAckConsume = .next v ∧
    v.finishAckDispatch .check = .next t := by
  simp only [exec, execCackSclLow] at h
  obtain ⟨⟨lv, u⟩, h1, h2⟩ := andThen_next.mp h
  obtain ⟨rfl, hu⟩ := State.sdaSample_spec h1
  obtain ⟨v, h3, h4⟩ := State.finishAck_cases h2
  exact ⟨u, v, h1, hu, h3, h4⟩

/-- RBIT_SCL_HIGH, where it answers (R154). -/
theorem execRbitSclHigh_spec {s t : State} (h : exec .rbitSclHigh s = .next t) :
   let u := (if s.bitIndex = 7 then s.sdaSetDirection .input else s)
   t = ({ u with
      envDraws := u.envDraws.drop 1, samplesTaken := u.samplesTaken + 1,
      pinCallLog := u.pinCallLog ++ [.sda (.state (u.sdaWire u.envLowSda))],
      sampledBit := u.sdaWire u.envLowSda : State}).sclSet.goto 0x0B := by
  simp only [exec, execRbitSclHigh] at h
  obtain ⟨⟨lv, u⟩, h1, h2⟩ := andThen_next.mp h
  obtain ⟨rfl, rfl⟩ := State.sdaSample_spec h1
  injection h2 with h2
  exact h2.symm

/-- Everything FinishAck leaves alone, and how it ends (R176, R177). -/
theorem State.finishAck_frame {s t u : State} {k : AckKind} (hc : s.finishAckConsume = .next u)
    (hd : u.finishAckDispatch k = .next t) :
    t.widths = s.widths ∧ t.lastFrame = s.lastFrame ∧
    t.lastOperationWasWrite = s.lastOperationWasWrite ∧ t.cfgAddress = s.cfgAddress ∧
    t.cfgFrame = s.cfgFrame ∧ t.faults = s.faults ∧ t.hostMoves = s.hostMoves ∧
    t.sampledBit = s.sampledBit ∧ t.scl = s.scl ∧ t.sda = s.sda ∧ t.data = s.data ∧
    t.dataSize = s.dataSize ∧ t.acknowledgeBit = s.acknowledgeBit ∧ t.envDraws = s.envDraws ∧
    t.samplesTaken = s.samplesTaken ∧ t.acknowledgeError = (s.acknowledgeError || s.nacked k) ∧
    (t.buf = s.buf ∨ (s.writingAddress = false ∧ s.lastOperationWasWrite = false ∧
      ∃ d, s.data = some d ∧ t.buf = Memory.write s.buf (d + s.dataIndex) s.activeByte)) ∧
    ((t.step ≠ 0x00 ∧ t.timerArmed = true ∧ t.pinCallLog = s.pinCallLog ++ [.timerStart] ∧
        t.signalLog = s.signalLog) ∨
      (t.step = 0x00 ∧ t.timerArmed = s.timerArmed ∧ t.pinCallLog = s.pinCallLog ∧
        ∃ g, t.signalLog = s.signalLog ++ [g])) ∧
    (t.step = 0x05 ∨ t.step = 0x0A ∨ t.step = 0x0F ∨ t.step = 0x00) ∧
    (t.step = 0x05 → s.lastOperationWasWrite = true) := by
  rcases State.finishAckConsume_cases hc with ⟨h1, rfl⟩ | ⟨h1, h2, rfl⟩ | ⟨h1, h2, d, h3, h4, rfl⟩ <;>
  rcases State.finishAckDispatch_cases hd with
    ⟨g1, rfl⟩ | ⟨g1, g2, g3, e, g4, g5, rfl⟩ | ⟨g1, g2, g3, rfl⟩ | ⟨g1, g2, g3, rfl⟩ | ⟨g1, g2, g3, rfl⟩
  all_goals (cases k <;> simp_all [State.nacked])

/-- WRITE, where it answers (R194). -/
theorem execWrite_cases {s t : State} {b n} (h : exec (.write b n) s = .next t) :
    s.busy = false ∧ (beginsWithStart s.cfgFrame = true ∨ n ≠ 0) ∧
    ∃ ab st wa, t = ({ s.recordCall b n true with
      writingAddress := wa, activeByte := ab, bitIndex := 7 } : State).goto st ∧
    ((beginsWithStart s.cfgFrame = true ∧ wa = true ∧ st = 0x01 ∧ ab = addressByte s.cfgAddress false) ∨
      (beginsWithStart s.cfgFrame = false ∧ wa = false ∧ st = 0x05 ∧ ab = s.byteAt b.toNat)) := by
  simp only [exec, execWrite] at h
  split at h
  · cases h
  · split at h
    · cases h
    · rename_i hb hn
      simp at hb hn
      split at h
      · rename_i hf
        injection h with h
        exact ⟨hb, .inl hf, _, _, _, h.symm, .inl ⟨hf, rfl, rfl, rfl⟩⟩
      · rename_i hf
        simp at hf
        obtain ⟨u, hu, h⟩ := andThen_next.mp h
        obtain ⟨d, hd, -, rfl⟩ := State.beginWriteByte_spec hu
        injection h with h
        cases hd
        exact ⟨hb, .inr (hn hf), _, _, _, h.symm, .inr ⟨hf, rfl, rfl, rfl⟩⟩

/-- READ, where it answers (R195). -/
theorem execRead_cases {s t : State} {b n} (h : exec (.read b n) s = .next t) :
    s.busy = false ∧ (beginsWithStart s.cfgFrame = true ∨ s.restartDue = true ∨ n ≠ 0) ∧
    ∃ ab st wa, t = ({ s.recordCall b n false with
      writingAddress := wa, activeByte := ab, bitIndex := 7 } : State).goto st ∧
    ((wa = true ∧ (st = 0x01 ∨ st = 0x03) ∧ ab = addressByte s.cfgAddress true) ∨
      (beginsWithStart s.cfgFrame = false ∧ s.restartDue = false ∧ wa = false ∧ st = 0x0A ∧ ab = 0)) := by
  simp only [exec, execRead] at h
  split at h
  · cases h
  · split at h
    · cases h
    · rename_i hb hn
      simp at hb hn
      split at h
      · rename_i hf
        injection h with h
        exact ⟨hb, .inl hf, _, _, _, h.symm, .inl ⟨rfl, .inl rfl, rfl⟩⟩
      · rename_i hf
        simp at hf
        split at h
        · rename_i hr
          injection h with h
          exact ⟨hb, .inr (.inl hr), _, _, _, h.symm, .inl ⟨rfl, .inr rfl, rfl⟩⟩
        · rename_i hr
          simp at hr
          injection h with h
          exact ⟨hb, .inr (.inr (hn hf hr)), _, _, _, h.symm, .inr ⟨hf, hr, rfl, rfl, rfl⟩⟩

/-- SET_ADDRESS, where it answers (R192). -/
theorem execSetAddress_cases {s t : State} {a} (h : exec (.setAddress a) s = .next t) :
    s.busy = false ∧ t = { s with cfgAddress := a } := by
  simp only [exec, execSetAddress] at h
  split at h
  · cases h
  · injection h with h; exact ⟨by simp_all, h.symm⟩

/-- SET_FRAME, where it answers (R193). -/
theorem execSetFrame_cases {s t : State} {a} (h : exec (.setFrame a) s = .next t) :
    s.busy = false ∧ t = { s with cfgFrame := a } := by
  simp only [exec, execSetFrame] at h
  split at h
  · cases h
  · injection h with h; exact ⟨by simp_all, h.symm⟩

end Machine

end Sys2Proof
end

