-- ==== Sys2Proof/Laws/PerInstr.lean ====
section
/-!
SUPPORT. A statement per instruction: the encoder puts an instruction's opcode-table row into the bits the
table gives it (spec/opcode_table.json: `op` in bits 3..0 of a command, the step code in bits 4..0 of a step).
-/

namespace Sys2Proof.Laws.TableRow

/-- The number of bits an instruction's row fixes and their value, as the table has them. -/
def row : Instr → Nat × Nat
  | .init => (4, 0x1)
  | .setAddress _ => (4, 0x2)
  | .setFrame _ => (4, 0x3)
  | .write _ _ => (4, 0x4)
  | .read _ _ => (4, 0x5)
  | .stopWrite => (4, 0x6)
  | .stopRead => (4, 0x7)
  | .setFrequency _ => (4, 0x8)
  | .idle => (5, 0x00)
  | .startSdaLow => (5, 0x01)
  | .startSclLow => (5, 0x02)
  | .restartSdaHigh => (5, 0x03)
  | .restartSclHigh => (5, 0x04)
  | .wbitSda => (5, 0x05)
  | .wbitSclHigh => (5, 0x06)
  | .wbitSclLow => (5, 0x07)
  | .cackSclHigh => (5, 0x08)
  | .cackSclLow => (5, 0x09)
  | .rbitSclHigh => (5, 0x0A)
  | .rbitSclLow => (5, 0x0B)
  | .sackSda => (5, 0x0C)
  | .sackSclHigh => (5, 0x0D)
  | .sackSclLow => (5, 0x0E)
  | .stopSdaLow => (5, 0x0F)
  | .stopSclHigh => (5, 0x10)
  | .stopSdaHigh => (5, 0x11)

/-- The low bits of the encoded word are the row's. -/
def Statement (i : Instr) : Prop := (encode i).word % 2 ^ (row i).1 = (row i).2

/-- A command's word has its opcode in the low four bits. -/
theorem word_command (c : Command) : (Encoding.command c).word % 2 ^ 4 = c.op.toNat := by
  have := c.op.isLt
  simp only [Encoding.word]
  omega

theorem init : Statement .init := word_command _

theorem setAddress (addr : SlaveAddress) : Statement (.setAddress addr) := word_command _

theorem setFrame (frame : Frame) : Statement (.setFrame frame) := word_command _

theorem write (base : BitVec 32) (size : Nat) : Statement (.write base size) := word_command _

theorem read (base : BitVec 32) (size : Nat) : Statement (.read base size) := word_command _

theorem stopWrite : Statement .stopWrite := word_command _

theorem stopRead : Statement .stopRead := word_command _

theorem setFrequency (hz : BitVec 32) : Statement (.setFrequency hz) := word_command _

theorem idle : Statement .idle := rfl

theorem startSdaLow : Statement .startSdaLow := rfl

theorem startSclLow : Statement .startSclLow := rfl

theorem restartSdaHigh : Statement .restartSdaHigh := rfl

theorem restartSclHigh : Statement .restartSclHigh := rfl

theorem wbitSda : Statement .wbitSda := rfl

theorem wbitSclHigh : Statement .wbitSclHigh := rfl

theorem wbitSclLow : Statement .wbitSclLow := rfl

theorem cackSclHigh : Statement .cackSclHigh := rfl

theorem cackSclLow : Statement .cackSclLow := rfl

theorem rbitSclHigh : Statement .rbitSclHigh := rfl

theorem rbitSclLow : Statement .rbitSclLow := rfl

theorem sackSda : Statement .sackSda := rfl

theorem sackSclHigh : Statement .sackSclHigh := rfl

theorem sackSclLow : Statement .sackSclLow := rfl

theorem stopSdaLow : Statement .stopSdaLow := rfl

theorem stopSclHigh : Statement .stopSclHigh := rfl

theorem stopSdaHigh : Statement .stopSdaHigh := rfl

end Sys2Proof.Laws.TableRow
end

