-- ==== Sys2Proof/Tests/Slice0.lean ====
section
/-!
SUPPORT. Tests. Expected values are those of spec/95_test_vectors.md (the vector is named) or of the rule
named; each test runs one step. The witnesses show that the hypotheses of the obligations can be met.
-/

namespace Sys2Proof.Tests

open Sys2Proof Sys2Proof.Machine

/-- The widths of the spec's examples. -/
abbrev W : Config.Widths := ⟨16, 16⟩

/-- The answer is a next state with this property. -/
def gives (r : Result) (p : State → Bool) : Bool :=
  match r with
  | .next t => p t
  | .fault _ => false
  | .refused _ => false

/-- The answer is this fault, and the state it leaves has this property. -/
def faults (r : Result) (reason : FaultReason) (p : State → Bool) : Bool :=
  match r with
  | .fault (.raised x t) => decide (x = reason) && p t
  | _ => false

/-- The answer is this refusal, and the state it leaves has this property. -/
def refuses (r : Result) (reason : RefusalReason) (p : State → Bool) : Bool :=
  match r with
  | .refused (.port x t) => decide (x = reason) && p t
  | _ => false

/-- An idle engine with address 0x50 and a frame. -/
def idle (f : Frame) : State := { State.reset with cfgAddress := 0x50, cfgFrame := f }

/-- An idle engine that holds the bus after a First write (T108, T110, T112). -/
def held (f : Frame) : State :=
  { idle f with
    lastOperationWasWrite := true, lastFrame := .first, scl := ⟨.outputOpenDrain, false⟩
    buf := [(0x101, 0x20)] }

/-- The address phase of a write of 2 bytes, at a step. -/
def addressing (code : StepCode) : State :=
  { State.reset with
    cfgAddress := 0x50, data := some 0x100, dataSize := 2, lastOperationWasWrite := true
    writingAddress := true, activeByte := 0xA0, step := code, timerArmed := true
    buf := [(0x100, 0xAA), (0x101, 0x55)] }

/-- Payload byte `k` of a write of 2 bytes, at a step, SCL low. -/
def sending (code : StepCode) (k : Nat) (f : Frame) : State :=
  { addressing code with
    writingAddress := false, activeByte := if k = 0 then 0xAA else 0x55, dataIndex := k, lastFrame := f
    scl := ⟨.outputOpenDrain, false⟩ }

/-- A check-acknowledge about to sample, with the level the environment drives. -/
def checking (s : State) (envLow : Bool) : State :=
  { s with
    step := 0x09, sda := ⟨.input, s.sda.latch⟩, scl := ⟨.outputOpenDrain, true⟩, envDraws := [envLow, true] }

/-- Payload byte `k` of a read of `n` bytes, at a step, SCL low. -/
def receiving (code : StepCode) (k n : Nat) (f : Frame) : State :=
  { State.reset with
    cfgAddress := 0x50, data := some 0x200, dataSize := n, dataIndex := k, lastFrame := f
    step := code, timerArmed := true, scl := ⟨.outputOpenDrain, false⟩ }

/-- The address phase of a read of `n` bytes, about to sample its acknowledge. -/
def readChecking (n : Nat) (f : Frame) (envLow : Bool) : State :=
  checking { receiving 0x09 0 n f with writingAddress := true, activeByte := 0xA1 } envLow

/-- A set-acknowledge about to lower SCL, with the byte received. -/
def storing (v : Byte) (k n : Nat) (f : Frame) : State :=
  { receiving 0x0E k n f with activeByte := v, scl := ⟨.outputOpenDrain, true⟩ }

/-- A command as the host's next move. -/
def given (s : State) (c : Command) : State :=
  { s with hostMoves := [{ afterFires := 0, act := .command c }] }

/-! ## Well-formedness: one ill-formed term per check (R80, R83) -/

theorem test_wf_write_size : Instr.wf W (.write 0 0x10000) = false := by decide
theorem test_wf_write_buffer : Instr.wf W (.write 0xFFFF 2) = false := by decide
theorem test_wf_read_size : Instr.wf ⟨32, 8⟩ (.read 0 0x100) = false := by decide
theorem test_wf_read_buffer : Instr.wf W (.read 0x10001 0) = false := by decide
theorem test_wf_read_boundary : Instr.wf W (.read 0x10000 0) = true := by decide

/-! ## Decoding, every constructor from a written word (R81, R88; T1 to T20) -/

theorem test_decode_commands :
    decodeCommand W ⟨0b0001, 0x00000000, 0x0000⟩ = .instr .init ∧
    decodeCommand W ⟨0b0010, 0x0000007F, 0x0000⟩ = .instr (.setAddress 0x7F) ∧
    decodeCommand W ⟨0b0011, 0x00000000, 0x0000⟩ = .instr (.setFrame .first) ∧
    decodeCommand W ⟨0b0011, 0x00000001, 0x0000⟩ = .instr (.setFrame .next) ∧
    decodeCommand W ⟨0b0011, 0x00000002, 0x0000⟩ = .instr (.setFrame .last) ∧
    decodeCommand W ⟨0b0011, 0x00000003, 0x0000⟩ = .instr (.setFrame .firstAndLast) ∧
    decodeCommand W ⟨0b0100, 0x0000FFFE, 0x0002⟩ = .instr (.write 0xFFFE 2) ∧
    decodeCommand W ⟨0b0101, 0x00000200, 0x0003⟩ = .instr (.read 0x200 3) ∧
    decodeCommand W ⟨0b0110, 0x00000000, 0x0000⟩ = .instr .stopWrite ∧
    decodeCommand W ⟨0b0111, 0x00000000, 0x0000⟩ = .instr .stopRead ∧
    decodeCommand W ⟨0b1000, 0x000186A0, 0x0000⟩ = .instr (.setFrequency 100000) := by decide

theorem test_decode_refusals :
    decodeCommand W ⟨0x0, 0, 0⟩ = .refused .reservedOpcode ∧
    decodeCommand W ⟨0x9, 0, 0⟩ = .refused .reservedOpcode ∧
    decodeCommand W ⟨0xF, 0, 0⟩ = .refused .reservedOpcode ∧
    decodeCommand W ⟨0x1, 1, 0⟩ = .refused .operandNonzero ∧
    decodeCommand W ⟨0x2, 0x80, 0⟩ = .refused .operandRange ∧
    decodeCommand W ⟨0x2, 0x7F, 1⟩ = .refused .operandNonzero ∧
    decodeCommand W ⟨0x2, 0x80, 1⟩ = .refused .operandRange ∧
    decodeCommand W ⟨0x3, 4, 0⟩ = .refused .operandRange ∧
    decodeCommand W ⟨0x4, 0xFFFF, 2⟩ = .refused .bufferRange ∧
    decodeCommand W ⟨0x5, 0x10001, 0⟩ = .refused .bufferRange ∧
    decodeCommand W ⟨0x6, 0, 1⟩ = .refused .operandNonzero ∧
    decodeCommand W ⟨0x7, 1, 0⟩ = .refused .operandNonzero ∧
    decodeCommand W ⟨0x8, 0, 1⟩ = .refused .operandNonzero := by decide

theorem test_decode_steps :
    stepOfCode 0b00000 = some .idle ∧ stepOfCode 0b00001 = some .startSdaLow ∧
    stepOfCode 0b00010 = some .startSclLow ∧ stepOfCode 0b00011 = some .restartSdaHigh ∧
    stepOfCode 0b00100 = some .restartSclHigh ∧ stepOfCode 0b00101 = some .wbitSda ∧
    stepOfCode 0b00110 = some .wbitSclHigh ∧ stepOfCode 0b00111 = some .wbitSclLow ∧
    stepOfCode 0b01000 = some .cackSclHigh ∧ stepOfCode 0b01001 = some .cackSclLow ∧
    stepOfCode 0b01010 = some .rbitSclHigh ∧ stepOfCode 0b01011 = some .rbitSclLow ∧
    stepOfCode 0b01100 = some .sackSda ∧ stepOfCode 0b01101 = some .sackSclHigh ∧
    stepOfCode 0b01110 = some .sackSclLow ∧ stepOfCode 0b01111 = some .stopSdaLow ∧
    stepOfCode 0b10000 = some .stopSclHigh ∧ stepOfCode 0b10001 = some .stopSdaHigh ∧
    stepOfCode 0b10010 = none ∧ stepOfCode 0b11111 = none := by decide

/-- A word of the opcode table, placed after reset, is what the next step runs (log entries 3 and 8). -/
theorem test_placed_command_runs :
    gives (step (State.reset.withFetchWord 52 (0x2 * 2 ^ 36 + 0x100 * 2 ^ 4 + 0x4)))
      (fun t => decide (t.step = 0x01 ∧ t.data = some 0x100 ∧ t.dataSize = 2)) = true := by decide
theorem test_placed_step_runs :
    gives (step (State.reset.withFetchWord 8 0x11)) (fun t => decide (t.step = 0x00)) = true := by decide

/-! ## Value codes (R84, R86, R87, R90) -/

theorem test_value_codes :
    [Frame.first, .next, .last, .firstAndLast].map (fun f => f.code.toNat) = [0, 1, 2, 3] ∧
    [ErrorKind.nack, .notWriting, .notReading].map ErrorKind.code = [1, 2, 3] ∧
    [Signal.dataAvailable, .dataWritten, .error .nack, .writeStopped, .readStopped].map Signal.code
      = [1, 2, 3, 4, 5] ∧
    [Direction.outputOpenDrain, .input, .outputPushPull].map Direction.code = [0, 1, 2] := by decide

/-- T21 to T28. -/
theorem test_address_bytes :
    addressByte 0x50 false = 0xA0 ∧ addressByte 0x50 true = 0xA1 ∧ addressByte 0x7F false = 0xFE ∧
    addressByte 0x7F true = 0xFF ∧ addressByte 0x00 true = 0x01 ∧ addressByte 0x3C false = 0x78 ∧
    addressByte 0x68 true = 0xD1 := by decide

/-! ## Commands -/

/-- T115: INIT while busy stops the timer and emits nothing. -/
theorem test_init_busy : gives (exec .init (addressing 0x07)) (fun t =>
    decide (t.step = 0x00 ∧ t.timerArmed = false ∧ t.signalLog = [] ∧ t.cfgAddress = 0x50)) = true := by decide
/-- T9, T101. -/
theorem test_set_address : gives (exec (.setAddress 0x7F) (idle .first)) (fun t =>
    decide (t.cfgAddress = 0x7F ∧ t.pinCallLog = (idle .first).pinCallLog)) = true := by decide
theorem test_set_address_busy : faults (exec (.setAddress 0x10) (addressing 0x02)) .busyCommand (fun t =>
    decide (t.cfgAddress = 0x50 ∧ t.faults = [.fault .busyCommand])) = true := by decide
/-- T102, and R193: `lastFrame` stays. -/
theorem test_set_frame : gives (exec (.setFrame .next) (idle .first)) (fun t =>
    decide (t.cfgFrame = .next ∧ t.lastFrame = .firstAndLast)) = true := by decide
theorem test_set_frame_busy :
    faults (exec (.setFrame .next) (addressing 0x02)) .busyCommand (fun t => decide (t.cfgFrame = .firstAndLast)) = true := by
  decide
/-- T107 and T108. -/
theorem test_write_starts : gives (exec (.write 0x100 2) (idle .firstAndLast)) (fun t =>
    decide (t.activeByte = 0xA0 ∧ t.step = 0x01 ∧ t.writingAddress = true ∧ t.lastOperationWasWrite = true)) = true := by
  decide
theorem test_write_continues : gives (exec (.write 0x101 1) (held .next)) (fun t =>
    decide (t.activeByte = 0x20 ∧ t.step = 0x05 ∧ t.writingAddress = false)) = true := by decide
/-- T106 and T109. -/
theorem test_read_restarts : gives (exec (.read 0x200 0) (held .last)) (fun t =>
    decide (t.activeByte = 0xA1 ∧ t.step = 0x03 ∧ t.lastOperationWasWrite = false)) = true := by decide
theorem test_read_direct :
    gives (exec (.read 0x201 1) { held .last with lastOperationWasWrite := false }) (fun t =>
      decide (t.activeByte = 0 ∧ t.step = 0x0A ∧ t.writingAddress = false)) = true := by decide
/-- T112: a held bus is not being written. -/
theorem test_stop_write_held : gives (exec .stopWrite (held .last)) (fun t =>
    decide (t = { held .last with signalLog := [.error .notWriting] })) = true := by decide
/-- E6: the seven calls of a cancelled write, in order. -/
theorem test_stop_write_busy : gives (exec .stopWrite (addressing 0x07)) (fun t =>
    decide (t.pinCallLog.drop 5 = [.scl (.setDirection .input), .sda (.setDirection .input), .timerStop, .scl .set,
      .sda .set, .scl (.setDirection .outputOpenDrain), .sda (.setDirection .outputOpenDrain)] ∧
      t.signalLog = [.writeStopped])) = true := by decide
/-- T113 and T114. -/
theorem test_stop_read_writing : gives (exec .stopRead (addressing 0x02)) (fun t =>
    decide (t.signalLog = [.error .notReading] ∧ t.step = 0x02)) = true := by decide
theorem test_stop_read_busy : gives (exec .stopRead (receiving 0x0A 0 2 .last)) (fun t =>
    decide (t.signalLog = [.readStopped] ∧ t.buf = [] ∧ t.activeByte = 0)) = true := by decide
/-- T103. -/
theorem test_set_frequency : gives (exec (.setFrequency 400000) (addressing 0x02)) (fun t =>
    decide (t = addressing 0x02)) = true := by decide
/-- T104 and T105. -/
theorem test_empty_direct_transfer :
    faults (exec (.write 0x100 0) (idle .next)) .emptyDirectTransfer (fun t => decide (t.step = 0x00)) = true ∧
    faults (exec (.read 0x100 0) (idle .last)) .emptyDirectTransfer (fun t => decide (t.data = none)) = true := by
  decide
/-- T1: a refused command changes nothing else. -/
theorem test_refused_command :
    refuses (step (given State.reset ⟨0x0, 0, 0⟩)) .reservedOpcode (fun t =>
      decide (t = { State.reset with faults := [.refusal .reservedOpcode] })) = true := by decide

/-! ## Condition generator (T30 to T39b) -/

theorem test_start_sda_low : gives (exec .startSdaLow (addressing 0x01)) (fun t =>
    decide (t.step = 0x02 ∧ t.sclWire = true ∧ t.sdaWire false = false)) = true := by decide
theorem test_start_scl_low : gives (exec .startSclLow (addressing 0x02)) (fun t =>
    decide (t.step = 0x05 ∧ t.sclWire = false ∧ t.bitIndex = 7)) = true := by decide
theorem test_restart_sda_high : gives (exec .restartSdaHigh { held .last with sda := ⟨.outputOpenDrain, false⟩ })
    (fun t => decide (t.step = 0x04 ∧ t.sclWire = false ∧ t.sdaWire false = true)) = true := by decide
theorem test_restart_scl_high : gives (exec .restartSclHigh (held .last))
    (fun t => decide (t.step = 0x01 ∧ t.sclWire = true ∧ t.sdaWire false = true)) = true := by decide
theorem test_stop_sda_low : gives (exec .stopSdaLow (sending 0x0F 1 .last))
    (fun t => decide (t.step = 0x10 ∧ t.sclWire = false ∧ t.sdaWire false = false)) = true := by decide
theorem test_stop_scl_high : gives (exec .stopSclHigh { sending 0x10 1 .last with sda := ⟨.outputOpenDrain, false⟩ })
    (fun t => decide (t.step = 0x11 ∧ t.sclWire = true ∧ t.sdaWire false = false)) = true := by decide
theorem test_stop_sda_high_written : gives (exec .stopSdaHigh (sending 0x11 1 .last)) (fun t =>
    decide (t.signalLog = [.dataWritten] ∧ t.data = none ∧ t.dataIndex = 0 ∧
      t.pinCallLog.drop 5 = [.sda .set])) = true := by decide
theorem test_stop_sda_high_nack :
    gives (exec .stopSdaHigh { receiving 0x11 0 2 .first with acknowledgeError := true }) (fun t =>
      decide (t.signalLog = [.error .nack] ∧ t.acknowledgeError = true)) = true := by decide
/-- R120, R112. -/
theorem test_idle_waits : gives (step State.reset) (fun t => decide (t = State.reset)) = true := by decide
theorem test_idle_fire : faults (step { State.reset with timerArmed := true }) .unreachableStep (fun t =>
    decide (t.faults = [.fault .unreachableStep])) = true := by decide

/-! ## Byte shifter (T50 to T59) -/

theorem test_wbit_sda_one : gives (exec .wbitSda (addressing 0x05)) (fun t =>
    decide (t.sda.latch = true ∧ t.step = 0x06)) = true := by decide
theorem test_wbit_sda_zero : gives (exec .wbitSda { addressing 0x05 with bitIndex := 6 }) (fun t =>
    decide (t.sda.latch = false ∧ t.pinCallLog.drop 5 = [.sda .reset, .timerStart])) = true := by decide
theorem test_wbit_scl_high : gives (exec .wbitSclHigh (sending 0x06 0 .last)) (fun t =>
    decide (t.scl.latch = true ∧ t.step = 0x07)) = true := by decide
theorem test_wbit_scl_low : gives (exec .wbitSclLow { addressing 0x07 with bitIndex := 3 }) (fun t =>
    decide (t.bitIndex = 2 ∧ t.step = 0x05)) = true := by decide
theorem test_wbit_scl_low_last : gives (exec .wbitSclLow { addressing 0x07 with bitIndex := 0 }) (fun t =>
    decide (t.bitIndex = 7 ∧ t.step = 0x08)) = true := by decide
theorem test_rbit_scl_high_first :
    gives (exec .rbitSclHigh { receiving 0x0A 0 1 .last with envDraws := [true] }) (fun t =>
      decide (t.sampledBit = false ∧ t.pinCallLog.drop 5 =
        [.sda (.setDirection .input), .sda (.state false), .scl .set, .timerStart])) = true := by decide
theorem test_rbit_scl_high_later :
    gives (exec .rbitSclHigh
      { receiving 0x0A 0 1 .last with bitIndex := 6, envDraws := [false], sda := ⟨.input, true⟩ }) (fun t =>
      decide (t.sampledBit = true ∧ t.pinCallLog.drop 5 = [.sda (.state true), .scl .set, .timerStart])) = true := by
  decide
theorem test_rbit_scl_low :
    gives (exec .rbitSclLow
      { receiving 0x0B 0 1 .last with activeByte := 0x80, bitIndex := 6, sampledBit := true }) (fun t =>
      decide (t.activeByte = 0xC0 ∧ t.bitIndex = 5 ∧ t.step = 0x0A)) = true := by decide
theorem test_rbit_scl_low_last :
    gives (exec .rbitSclLow { receiving 0x0B 0 1 .last with activeByte := 0x5A, bitIndex := 0 }) (fun t =>
      decide (t.activeByte = 0x5A ∧ t.bitIndex = 7 ∧ t.step = 0x0C)) = true := by decide

/-! ## Acknowledge handler (T70 to T91) -/

theorem test_cack_scl_high : gives (exec .cackSclHigh (addressing 0x08)) (fun t =>
    decide (t.sda.dir = .input ∧ t.step = 0x09 ∧
      t.pinCallLog.drop 5 = [.sda (.setDirection .input), .scl .set, .timerStart])) = true := by decide
/-- T82. -/
theorem test_cack_scl_low_ack : gives (exec .cackSclLow (checking (addressing 0x09) true)) (fun t =>
    decide (t.activeByte = 0xAA ∧ t.step = 0x05 ∧ t.dataIndex = 0 ∧ t.acknowledgeBit = false)) = true := by decide
/-- T81. -/
theorem test_cack_scl_low_nack :
    gives (exec .cackSclLow (checking { sending 0x09 1 .first with dataSize := 3 } false)) (fun t =>
      decide (t.dataIndex = 2 ∧ t.step = 0x0F ∧ t.acknowledgeError = true ∧ t.signalLog = [])) = true := by decide
/-- T74 and T75. -/
theorem test_sack_sda_ack : gives (exec .sackSda (receiving 0x0C 0 2 .last)) (fun t =>
    decide (t.sda = ⟨.outputOpenDrain, false⟩ ∧ t.step = 0x0D)) = true := by decide
theorem test_sack_sda_nack :
    gives (exec .sackSda { receiving 0x0C 1 2 .first with sda := ⟨.input, false⟩ }) (fun t =>
      decide (t.sda = ⟨.outputOpenDrain, true⟩)) = true := by decide
theorem test_sack_scl_high : gives (exec .sackSclHigh (receiving 0x0D 0 2 .last)) (fun t =>
    decide (t.scl.latch = true ∧ t.step = 0x0E)) = true := by decide
/-- T88 and T90. -/
theorem test_sack_scl_low_more : gives (exec .sackSclLow (storing 0x11 0 3 .last)) (fun t =>
    decide (t.buf = [(0x200, 0x11)] ∧ t.dataIndex = 1 ∧ t.step = 0x0A ∧ t.activeByte = 0)) = true := by decide
theorem test_sack_scl_low_held :
    gives (exec .sackSclLow { storing 0x33 2 3 .next with timerArmed := false }) (fun t =>
      decide (t.byteAt 0x202 = 0x33 ∧ t.step = 0x00 ∧ t.timerArmed = false ∧ t.signalLog = [.dataAvailable])) = true := by
  decide

/-! ## Inputs -/

/-- R70, R71: in flight the host has no store, in the engine's buffer or outside it. -/
theorem test_host_store_refused :
    ∀ a ∈ [0x101, 0x102],
      (match step { addressing 0x02 with hostMoves := [{ afterFires := 0, act := .store a 0x77 }] } with
        | .refused (.noHostMove x) => decide (x = a)
        | _ => false) = true := by decide
theorem test_host_store :
    gives (step { held .last with hostMoves := [{ afterFires := 0, act := .store 0x100 0x77 }] }) (fun t =>
      decide (t.buf = [(0x100, 0x77), (0x101, 0x20)] ∧ t.step = 0x00)) = true := by decide

/-! ## Witnesses: states and operands that meet the hypotheses of each obligation that has any -/

/-- A host move that is next, with its move list. -/
def moved (s : State) (n : Nat) (a : HostAct) (ms : List HostMove) : State :=
  { s with hostMoves := { afterFires := n, act := a } :: ms }

theorem test_witness_HardReset :
    State.reset.faults = [] ∧ State.reset.signalLog = [] ∧
      { State.reset with pinCallLog := [] }.pinCallLog = [] := by decide

theorem test_witness_StepCodes : 0x12 ≤ (0x12 : StepCode).toNat ∧ 0x12 ≤ (0x1F : StepCode).toNat := by decide

theorem test_witness_Port :
    0xFFFF < 2 ^ W.sw ∧ 3 < (4 : BitVec 32).toNat ∧
    (∀ f : Fin 4, ∃ frame : Frame, (BitVec.ofNat 32 f).toNat = frame.code.toNat) ∧
    ((0x0 : BitVec 4).toNat = 0 ∨ 9 ≤ (0x0 : BitVec 4).toNat) ∧
    ((0x9 : BitVec 4).toNat = 0 ∨ 9 ≤ (0x9 : BitVec 4).toNat) ∧
    ((0xF : BitVec 4).toNat = 0 ∨ 9 ≤ (0xF : BitVec 4).toNat) :=
  ⟨by decide, by decide,
    fun f => match f with
      | 0 => ⟨.first, rfl⟩ | 1 => ⟨.next, rfl⟩ | 2 => ⟨.last, rfl⟩ | 3 => ⟨.firstAndLast, rfl⟩,
    by decide, by decide, by decide⟩

theorem test_witness_Reserved :
    (∃ s : State, ∃ c : Command, s.hostMoves = [{ afterFires := 3, act := .command c }] ∧
      (s.timerArmed = false ∨ 3 = 0) ∧ c.b < 2 ^ s.widths.sw ∧ c.op.toNat = 0) ∧
    (∃ s : State, ∃ c : Command, s.hostMoves = [{ afterFires := 0, act := .command c }] ∧
      s.timerArmed = true ∧ c.b < 2 ^ s.widths.sw ∧ 9 ≤ c.op.toNat) :=
  ⟨⟨moved State.reset 3 (.command ⟨0, 7, 0xFFFF⟩) [], ⟨0, 7, 0xFFFF⟩, by decide⟩,
    ⟨moved (addressing 0x05) 0 (.command ⟨9, 0, 0⟩) [], ⟨9, 0, 0⟩, by decide⟩⟩

theorem test_witness_RoundTrip :
    Instr.wf W (.write 0xFFFE 2) = true ∧ Instr.wf W (.read 0x10000 0) = true ∧
    decode W (.command ⟨4, 0xFFFE, 2⟩) = .instr (.write 0xFFFE 2) ∧ decode W (.step 0x11) = .instr .stopSdaHigh := by
  decide

theorem test_witness_StepRunsCommand :
    (∃ (s : State) (c : Command) (i : Instr), s.hostMoves = [{ afterFires := 2, act := .command c }] ∧ s.timerArmed = false ∧
      decodeCommand s.widths c = .instr i) ∧
    (∃ (s : State) (c : Command) (i : Instr), s.hostMoves = [{ afterFires := 0, act := .command c }] ∧ s.timerArmed = true ∧
      decodeCommand s.widths c = .instr i) :=
  ⟨⟨moved State.reset 2 (.command ⟨4, 0x100, 2⟩) [], ⟨4, 0x100, 2⟩, .write 0x100 2, by decide⟩,
    ⟨moved (addressing 0x05) 0 (.command ⟨6, 0, 0⟩) [], ⟨6, 0, 0⟩, .stopWrite, by decide⟩⟩

/-- The two cases of the premise on the host's moves: none, and one that comes after more fires. -/
theorem test_witness_Fire :
    (∃ (s : State) (i : Instr), s.timerArmed = true ∧ (∀ m ms, s.hostMoves = m :: ms → m.afterFires ≠ 0) ∧
      stepOfCode s.step = some i ∧ i ≠ .idle) ∧
    (∃ s : State, s.timerArmed = true ∧ (∀ m ms, s.hostMoves = m :: ms → m.afterFires ≠ 0) ∧ s.step = 0x00) ∧
    (∃ s : State, s.timerArmed = true ∧ (∀ m ms, s.hostMoves = m :: ms → m.afterFires ≠ 0) ∧
      0x12 ≤ s.step.toNat) ∧
    (∃ (s : State) (i : Instr) (t : State), s.timerArmed = false ∧ fetch s = .run i t ∧ i.isStep = true) :=
  ⟨⟨moved (addressing 0x05) 1 (.command ⟨6, 0, 0⟩) [], .wbitSda, rfl,
      fun m ms h => by injection h with h; subst h; decide, by decide, by decide⟩,
    ⟨{ State.reset with timerArmed := true }, rfl, (fun m ms h => by injection h), rfl⟩,
    ⟨{ State.reset with timerArmed := true, step := 0x12 }, rfl, (fun m ms h => by injection h), by decide⟩,
    ⟨State.reset, .idle, State.reset, by decide⟩⟩

theorem test_witness_Idle :
    State.reset.step = 0x00 ∧ State.reset.timerArmed = false ∧ State.reset.hostMoves = [] ∧ State.reset.Inv := by
  decide

theorem test_witness_EitherOrder :
    ∃ (s : State) (c : Command) (j i : Instr), s.timerArmed = true ∧ stepOfCode s.step = some i ∧ i ≠ .idle ∧
      decodeCommand s.widths c = .instr j :=
  ⟨addressing 0x05, ⟨6, 0, 0⟩, .stopWrite, .wbitSda, by decide⟩

/-- The last byte of `BUF` at IDLE, an address just past it, and in flight a byte just outside the buffer and
one inside it. -/
theorem test_witness_HostStores :
    (∃ s : State, Memory.wf s.widths.aw s.buf = true ∧
      s.hostMoves = [{ afterFires := 2, act := .store 0xFFFF 7 }] ∧ s.timerArmed = false ∧
      0xFFFF < 2 ^ s.widths.aw ∧ s.step = 0x00) ∧
    (∃ s : State, Memory.wf s.widths.aw s.buf = true ∧
      s.hostMoves = [{ afterFires := 2, act := .store 0x10000 7 }] ∧ s.timerArmed = false ∧
      2 ^ s.widths.aw ≤ 0x10000) ∧
    (∀ a ∈ [0x101, 0x102], ∃ s : State, Memory.wf s.widths.aw s.buf = true ∧
      s.hostMoves = [{ afterFires := 0, act := .store a 7 }] ∧ s.timerArmed = true ∧ s.step ≠ 0x00) :=
  ⟨⟨moved State.reset 2 (.store 0xFFFF 7) [], by decide⟩,
    ⟨moved State.reset 2 (.store 0x10000 7) [], by decide⟩,
    fun a _ => ⟨moved (addressing 0x05) 0 (.store a 7) [], rfl, rfl, rfl, fun h => by injection h; contradiction⟩⟩

theorem test_witness_Start :
    ∃ s t : State, exec .startSdaLow s = .next t ∧ s.sda.dir = .outputOpenDrain :=
  ⟨addressing 0x01, _, rfl, rfl⟩

theorem test_witness_Restart :
    ∃ s t : State, s.sda.latch = true ∧ exec .restartSdaHigh s = .next t :=
  ⟨held .last, _, rfl, rfl⟩

/-- The first bit of a byte, and a later one. -/
theorem test_witness_RbitSclHigh :
    ((receiving 0x0A 0 1 .last).bitIndex = 7) ∧
    (∃ s : State, s.bitIndex = 0 ∧ s.sda.dir ≠ .outputPushPull) :=
  ⟨by decide, { receiving 0x0A 0 1 .last with bitIndex := 0, sda := ⟨.input, true⟩ }, by decide⟩

theorem test_witness_TransmittedByte :
    ∃ s : State, s.step = 0x05 ∧ s.bitIndex = 7 ∧ s.timerArmed = true ∧ s.hostMoves = [] :=
  ⟨addressing 0x05, by decide⟩

theorem test_witness_ReceivedByte :
    ∃ (s : State) (b : Byte) (rest : List Bool), s.step = 0x0A ∧ s.bitIndex = 7 ∧ s.activeByte = 0 ∧
      s.timerArmed = true ∧ s.hostMoves = [] ∧
      s.envDraws = ([7, 6, 5, 4, 3, 2, 1, 0].map fun i => !b.getLsbD i) ++ rest :=
  ⟨{ receiving 0x0A 0 1 .last with envDraws := [true, false, true, false, false, true, false, true, true] },
    0x5A, [true], by decide⟩

/-- The NACKed address byte of a write, of a read, and a NACKed payload byte. -/
theorem test_witness_Nack :
    (∀ s ∈ [checking (addressing 0x09) false, readChecking 2 .first false, checking (sending 0x09 1 .next) false],
      s.sda.dir ≠ .outputPushPull ∧ s.sdaWire s.envLowSda = true ∧
        (s.writingAddress = true ∨ s.lastOperationWasWrite = true)) := by decide

/-- The address byte acknowledged with bytes to send, and the last byte with each kind of frame. -/
theorem test_witness_AckDuringAWrite :
    (∃ (s : State) (d : Nat), s.sda.dir ≠ .outputPushPull ∧ s.sdaWire s.envLowSda = false ∧
      s.lastOperationWasWrite = true ∧ (ackSampled s false).dataIndex < (ackSampled s false).dataSize ∧
      s.data = some d ∧ d + (ackSampled s false).dataIndex < 2 ^ s.widths.aw) ∧
    (∀ f ∈ [Frame.last, .firstAndLast, .first, .next], ∃ s : State, s.sda.dir ≠ .outputPushPull ∧
      s.sdaWire s.envLowSda = false ∧ s.lastOperationWasWrite = true ∧
      (ackSampled s false).dataSize ≤ (ackSampled s false).dataIndex ∧ s.lastFrame = f) :=
  ⟨⟨checking (addressing 0x09) true, 0x100, by decide⟩,
    fun f hf => ⟨checking (sending 0x09 1 f) true, by decide +revert⟩⟩

theorem test_witness_AckOfAReadAddress :
    (∃ s : State, s.sda.dir ≠ .outputPushPull ∧ s.sdaWire s.envLowSda = false ∧
      s.lastOperationWasWrite = false ∧ s.writingAddress = true ∧ s.dataIndex < s.dataSize) ∧
    (∀ f ∈ [Frame.last, .firstAndLast, .first, .next], ∃ s : State, s.sda.dir ≠ .outputPushPull ∧
      s.sdaWire s.envLowSda = false ∧ s.lastOperationWasWrite = false ∧ s.writingAddress = true ∧
      s.dataSize ≤ s.dataIndex ∧ s.lastFrame = f) :=
  ⟨⟨readChecking 1 .last true, by decide⟩, fun f hf => ⟨readChecking 0 f true, by decide +revert⟩⟩

theorem test_witness_SackSda :
    (∃ s : State, s.dataIndex + 1 < s.dataSize) ∧ (∃ s : State, s.dataSize ≤ s.dataIndex + 1) :=
  ⟨⟨receiving 0x0C 0 2 .last, by decide⟩, ⟨receiving 0x0C 1 2 .last, by decide⟩⟩

theorem test_witness_SackSclLow :
    (∃ (s : State) (d : Nat), Memory.wf s.widths.aw s.buf = true ∧ s.writingAddress = false ∧
      s.lastOperationWasWrite = false ∧ s.data = some d ∧ d + s.dataIndex < 2 ^ s.widths.aw ∧
      s.dataIndex + 1 < s.dataSize) ∧
    (∀ f ∈ [Frame.last, .firstAndLast, .first, .next], ∃ (s : State) (d : Nat),
      Memory.wf s.widths.aw s.buf = true ∧ s.writingAddress = false ∧ s.lastOperationWasWrite = false ∧
      s.data = some d ∧ d + s.dataIndex < 2 ^ s.widths.aw ∧ s.dataSize ≤ s.dataIndex + 1 ∧ s.lastFrame = f) :=
  ⟨⟨storing 0x11 0 2 .last, 0x200, by decide⟩, fun f hf => ⟨storing 0x11 1 2 f, 0x200, by decide +revert⟩⟩

/-- A set-acknowledge that answers, and the NACK of a read's address byte. -/
theorem test_witness_SetAcknowledge :
    (∃ s t : State, exec .sackSclLow s = .next t) ∧
    (∃ s : State, s.Inv ∧ s.lastOperationWasWrite = false ∧ s.acknowledgeError = false ∧
      gives (step s) (fun t => t.acknowledgeError) = true) :=
  ⟨⟨storing 0x11 0 3 .last, _, rfl⟩, ⟨readChecking 2 .last false, by decide⟩⟩

theorem test_witness_IdleAndBusy : State.reset.step = 0x00 ∧ (addressing 0x05).step ≠ 0x00 := by decide

/-- Each frame, a size of 0 and of 1, and a buffer whose one byte is the last of `BUF`. -/
theorem test_witness_Write :
    (∀ f ∈ [Frame.first, .firstAndLast, .next, .last], ∃ s : State, s.step = 0x00 ∧ s.cfgFrame = f) ∧
    (0xFFFF : BitVec 32).toNat < 2 ^ State.reset.widths.aw :=
  ⟨fun f _ => ⟨idle f, rfl, rfl⟩, by decide⟩

/-- A restart is due after a First or Next write, and is not after a Last one or a read. -/
theorem test_witness_Read :
    (∀ f ∈ [Frame.next, .last], ∃ s : State, s.step = 0x00 ∧ s.cfgFrame = f ∧
      s.lastOperationWasWrite = true ∧ s.lastFrame = .first) ∧
    (∃ s : State, s.step = 0x00 ∧ s.cfgFrame = .last ∧ s.lastOperationWasWrite = true ∧ s.lastFrame = .next) ∧
    (∀ f ∈ [Frame.next, .last], ∃ s : State, s.step = 0x00 ∧ s.cfgFrame = f ∧
      ¬(s.lastOperationWasWrite = true ∧ (s.lastFrame = .first ∨ s.lastFrame = .next))) :=
  ⟨fun f _ => ⟨held f, rfl, rfl, rfl, rfl⟩, ⟨{ held .last with lastFrame := .next }, by decide⟩,
    fun f _ => ⟨{ held f with lastFrame := .last }, rfl, rfl, by simp⟩⟩

theorem test_witness_StopCommands :
    (∃ s : State, s.step ≠ 0x00 ∧ s.lastOperationWasWrite = true) ∧
    (∃ s : State, s.step ≠ 0x00 ∧ s.lastOperationWasWrite = false) ∧
    (∃ s : State, s.step = 0x00 ∧ s.lastOperationWasWrite = true) ∧
    (∃ s : State, s.step = 0x00 ∧ s.lastOperationWasWrite = false) :=
  ⟨⟨addressing 0x05, by decide⟩, ⟨receiving 0x0A 0 1 .last, by decide⟩, ⟨held .last, by decide⟩,
    ⟨State.reset, by decide⟩⟩

theorem test_witness_CommandsInFlight :
    (∃ (i : Instr) (s t : State), i.isStep = false ∧ exec i s = .next t ∧ i = .setFrequency 5) ∧
    (∃ (i : Instr) (s t : State), i.isStep = false ∧ exec i s = .next t ∧ i = .write 0x100 2) ∧
    (∃ (i : Instr) (s t : State), i.isStep = false ∧ exec i s = .next t ∧ i = .read 0x100 2) ∧
    ((addressing 0x05).step ≠ 0x00 ∧ (addressing 0x05).lastOperationWasWrite = true) ∧
    ((receiving 0x0A 0 1 .last).step ≠ 0x00 ∧ (receiving 0x0A 0 1 .last).lastOperationWasWrite = false) :=
  ⟨⟨_, addressing 0x05, _, rfl, rfl, rfl⟩, ⟨.write 0x100 2, idle .first, _, rfl, rfl, rfl⟩,
    ⟨.read 0x100 2, idle .first, _, rfl, rfl, rfl⟩, by decide, by decide⟩

/-- A step that answers, one that faults and one that is refused, in a state that has a mark already. -/
theorem test_witness_Marks :
    (∃ s t : State, step s = .next t ∧ s.faults ≠ []) ∧
    (∃ s t : State, step s = .fault (.raised .busyCommand t) ∧ s.faults ≠ []) ∧
    (∃ s t : State, step s = .refused (.port .operandRange t) ∧ s.faults ≠ []) :=
  ⟨⟨{ State.reset with faults := [.fault .busyCommand] }, _, rfl, by decide⟩,
    ⟨moved { addressing 0x05 with faults := [.refusal .bufferRange] } 0 (.command ⟨4, 0, 1⟩) [], _, rfl, by decide⟩,
    ⟨moved { State.reset with faults := [.fault .busyCommand] } 0 (.command ⟨2, 0x80, 0⟩) [], _, rfl, by decide⟩⟩

theorem test_witness_StepAnswers : ∃ s t : State, step s = .next t ∧ s ≠ t :=
  ⟨addressing 0x05, _, rfl, by decide⟩

/-- A step with a successor, a step that ends in IDLE, and a set-acknowledge of a read. -/
theorem test_witness_Contract :
    (∃ (i : Instr) (s t : State), i.isStep = true ∧ i ≠ .idle ∧ i ≠ .sackSclLow ∧ exec i s = .next t) ∧
    (∃ (i : Instr) (s t : State), i.isStep = true ∧ i ≠ .idle ∧ exec i s = .next t ∧ t.step = 0x00) ∧
    (∃ s t : State, s.lastOperationWasWrite = false ∧ exec .sackSclLow s = .next t) ∧
    (∃ (i : Instr) (s t : State), i.isStep = false ∧ exec i s = .next t ∧
      ((∀ b n, i ≠ .write b n) ∧ ∀ b n, i ≠ .read b n)) ∧
    (∃ s t : State, exec .sackSclLow s = .next t ∧ s.payloadAddress = .next 0x200) ∧
    (∃ s t : State, exec .cackSclLow s = .next t ∧ s.lastOperationWasWrite = true) :=
  ⟨⟨.wbitSda, addressing 0x05, _, rfl, by decide, by decide, rfl⟩,
    ⟨.stopSdaHigh, sending 0x11 1 .last, _, rfl, by decide, rfl, rfl⟩,
    ⟨storing 0x11 0 3 .last, _, rfl, rfl⟩, ⟨.stopWrite, held .last, _, rfl, rfl, by simp⟩,
    ⟨storing 0x11 0 3 .last, _, rfl, rfl⟩,
    ⟨checking (sending 0x09 0 .last) true, _, rfl, rfl⟩⟩

/-- The instructions that the inversions name, each where it answers. -/
theorem test_witness_Writers :
    (∃ s t : State, exec .init s = .next t) ∧ (∃ s t : State, exec (.setAddress 0x7F) s = .next t) ∧
    (∃ s t : State, exec (.setFrame .last) s = .next t) ∧ (∃ s t : State, exec (.write 0 0) s = .next t) ∧
    (∃ s t : State, exec (.read 0 0) s = .next t) ∧ (∃ s t : State, exec .stopWrite s = .next t ∧ s.step ≠ 0x00) ∧
    (∃ s t : State, exec .stopRead s = .next t ∧ s.step ≠ 0x00) ∧ (∃ s t : State, exec .cackSclLow s = .next t) :=
  ⟨⟨State.reset, _, rfl⟩, ⟨State.reset, _, rfl⟩, ⟨State.reset, _, rfl⟩, ⟨State.reset, _, rfl⟩,
    ⟨State.reset, _, rfl⟩, ⟨addressing 0x05, _, rfl, by decide⟩,
    ⟨receiving 0x0A 0 1 .last, _, rfl, by decide⟩, ⟨checking (addressing 0x09) true, _, rfl⟩⟩

/-- A store of a received byte, and a set-acknowledge in a state that no run reaches. -/
theorem test_witness_Buffer :
    (∃ s t : State, exec .sackSclLow s = .next t ∧ s.writingAddress = false ∧ s.lastOperationWasWrite = false ∧
      Memory.wf s.widths.aw s.buf = true) ∧
    (∃ s t : State, exec .sackSclLow s = .next t ∧ s.writingAddress = true) ∧
    (∃ s t : State, exec .cackSclLow s = .next t ∧ (s.writingAddress = true ∨ s.lastOperationWasWrite = true)) :=
  ⟨⟨storing 0x11 0 3 .last, _, rfl, rfl, rfl, rfl⟩,
    ⟨{ storing 0x11 0 3 .last with writingAddress := true }, _, rfl, rfl⟩,
    ⟨checking (addressing 0x09) true, _, rfl, .inl rfl⟩⟩

theorem test_witness_Samples :
    (∃ s t : State, exec .cackSclLow s = .next t ∧ stepContext .cackSclLow s = true) ∧
    (∃ s t : State, exec .rbitSclHigh s = .next t ∧ stepContext .rbitSclHigh s = true ∧ s.bitIndex = 7) ∧
    (∃ s t : State, exec .rbitSclHigh s = .next t ∧ stepContext .rbitSclHigh s = true ∧ s.bitIndex = 0) ∧
    (∃ s t : State, exec .startSdaLow s = .next t) :=
  ⟨⟨checking (addressing 0x09) true, _, rfl, rfl⟩, ⟨receiving 0x0A 0 1 .last, _, rfl, rfl, rfl⟩,
    ⟨{ receiving 0x0A 0 1 .last with bitIndex := 0, sda := ⟨.input, true⟩ }, _, rfl, rfl, rfl⟩,
    ⟨addressing 0x01, _, rfl⟩⟩

/-- The byte below the buffer and the byte above it, at a step that stores and at one that loads. -/
theorem test_witness_BytesOutside :
    (∀ a ∈ [0x1FF, 0x203], ∃ s t : State, s.Inv ∧ s.hostMoves = [] ∧ step s = .next t ∧ a < 2 ^ s.widths.aw ∧
      ∀ d, s.data = some d → a < d ∨ d + s.dataSize ≤ a) ∧
    (∃ s t : State, s.Inv ∧ s.hostMoves = [] ∧ step s = .next t ∧ 0x102 < 2 ^ s.widths.aw ∧
      ∀ d, s.data = some d → 0x102 < d ∨ d + s.dataSize ≤ 0x102) :=
  ⟨fun a ha => ⟨storing 0x11 0 3 .last, _, by decide, rfl, rfl, by
        simp only [List.mem_cons, List.not_mem_nil, or_false] at ha
        rcases ha with rfl | rfl <;> decide,
      fun d hd => by
        injection hd with hd
        subst hd
        revert a
        decide⟩,
    ⟨checking (addressing 0x09) true, _, by decide, rfl, rfl, by decide, fun d hd => by
      injection hd with hd
      subst hd
      decide⟩⟩

/-- A received byte's store. -/
theorem test_witness_EngineWrites :
    ∃ (s : State) (a : Nat), s.Inv ∧ s.step ≠ 0x00 ∧
      gives (step s) (fun t => decide (t.byteAt a ≠ s.byteAt a)) = true :=
  ⟨storing 0x11 0 3 .last, 0x200, by decide⟩

/-- Every instruction a frame names answers somewhere. -/
theorem test_witness_Frames :
    (∀ i ∈ [.startSdaLow, .startSclLow, .restartSdaHigh, .restartSclHigh, .stopSdaLow, .stopSclHigh,
      .wbitSda, .wbitSclHigh, .cackSclHigh, .sackSda, .sackSclHigh, .wbitSclLow, .rbitSclHigh, .rbitSclLow,
      .sackSclLow, .stopSdaHigh], gives (exec i (storing 0x11 0 3 .last)) (fun _ => true) = true) ∧
    gives (exec .cackSclLow (checking (addressing 0x09) true)) (fun _ => true) = true ∧
    (∀ i ∈ [Instr.init, .setAddress 1, .setFrame .last, .write 0x100 1, .read 0x100 1, .stopWrite, .stopRead,
      .setFrequency 1], i.isStep = false ∧ gives (exec i (idle .first)) (fun _ => true) = true) := by decide

/-- One state with the invariant for every kind of step, and one at IDLE with the bus held. -/
theorem test_witness_Invariant :
    (∀ s ∈ [State.reset, held .last, addressing 0x01, addressing 0x07, checking (addressing 0x09) true,
      readChecking 1 .last true, receiving 0x0A 0 1 .last, storing 0x11 0 3 .last,
      { sending 0x10 1 .last with sda := ⟨.outputOpenDrain, false⟩ }],
      s.Inv ∧ gives (step s) (fun _ => true) = true) := by decide

theorem test_witness_AcknowledgedWrite :
    ∃ (s : State) (base : BitVec 32) (n : Nat) (rest : List Bool),
      s.step = 0x00 ∧ s.sda.dir = .outputOpenDrain ∧ s.cfgFrame = .firstAndLast ∧ s.hostMoves = [] ∧
      base.toNat + n ≤ 2 ^ s.widths.aw ∧ s.envDraws = List.replicate (n + 1) true ++ rest ∧ n = 2 :=
  ⟨{ idle .firstAndLast with envDraws := [true, true, true, false] }, 0xFFFE, 2, [false], by decide⟩

end Sys2Proof.Tests
end

/-! PROOFS for spec/10_state.md: which instructions write the configuration, the transfer context and the
acknowledge flags (R27 to R34), and what the instructions do with the two lines (R35, R36). -/

namespace Sys2Proof.Machine

/-! ## The registers that record a call -/

/-- The end of a bit as one update: the count down from 0 gives the 7 of a new byte (R153, R155). -/
theorem State.afterBit_eq (s : State) (nextBit byteDone : StepCode) :
    s.afterBit nextBit byteDone =
      ({ s with bitIndex := s.bitIndex - 1 } : State).goto
        (if s.bitIndex = 0 then byteDone else nextBit) := by
  unfold State.afterBit
  split
  · rename_i hlast
    rw [hlast]
    rfl
  · rfl

/-- RBIT_SCL_HIGH samples a level in the old state or, at a byte's first bit, with SDA made an input
(R154). -/
theorem execRbitSclHigh_cases {s t : State} (h : exec .rbitSclHigh s = .next t) :
    ∃ u level, (u = s.sdaSetDirection .input ∨ u = s) ∧ t = ({ u with
      envDraws := u.envDraws.drop 1, samplesTaken := u.samplesTaken + 1,
      pinCallLog := u.pinCallLog ++ [.sda (.state level)], sampledBit := level } : State).sclSet.goto 0x0B :=
  ⟨_, _, ite_eq_or_eq _ _ _, execRbitSclHigh_spec h⟩

/-- The registers that configure a call, record it and hold its acknowledge (R27 to R30, R33, R34). -/
structure CallRecord where
  cfgAddress : SlaveAddress
  cfgFrame : Frame
  lastOperationWasWrite : Bool
  lastFrame : Frame
  acknowledgeBit : Bool
  acknowledgeError : Bool

/-- The call record in a state. -/
@[simps] def State.callRecord (s : State) : CallRecord where
  cfgAddress := s.cfgAddress
  cfgFrame := s.cfgFrame
  lastOperationWasWrite := s.lastOperationWasWrite
  lastFrame := s.lastFrame
  acknowledgeBit := s.acknowledgeBit
  acknowledgeError := s.acknowledgeError

/-- What WRITE and READ acceptance record (R194, R195). -/
@[simps] def CallRecord.accepted (r : CallRecord) (isWrite : Bool) : CallRecord :=
  { r with
    lastOperationWasWrite := isWrite, lastFrame := r.cfgFrame
    acknowledgeBit := false, acknowledgeError := false }

/-- What InitBus leaves of a record: the configuration (R200). -/
@[simps] def CallRecord.initialised (r : CallRecord) : CallRecord :=
  { r with
    lastOperationWasWrite := false, lastFrame := .firstAndLast
    acknowledgeBit := false, acknowledgeError := false }

/-- What the check-acknowledge makes of a record with the level it samples (R172, R177). -/
@[simps] def CallRecord.checked (r : CallRecord) (level : Bool) : CallRecord :=
  { r with acknowledgeBit := level, acknowledgeError := r.acknowledgeError || level }

/-- The record after an instruction that answers: who writes what (R27 to R30, R33, R34). -/
def recordAfter (i : Instr) (s : State) : CallRecord :=
  match i with
  | .setAddress a => { s.callRecord with cfgAddress := a }
  | .setFrame f => { s.callRecord with cfgFrame := f }
  | .write _ _ => s.callRecord.accepted true
  | .read _ _ => s.callRecord.accepted false
  | .init => s.callRecord.initialised
  | .stopWrite => if s.currentlyWriting then s.callRecord.initialised else s.callRecord
  | .stopRead => if s.currentlyReading then s.callRecord.initialised else s.callRecord
  | .cackSclLow => s.callRecord.checked (s.sdaWire s.envLowSda)
  | _ => s.callRecord

/-- InitBus keeps the configuration and clears the rest of the record (R200). -/
@[simp] theorem State.initBus_callRecord (s : State) : s.initBus.callRecord = s.callRecord.initialised := by
  rw [State.initBus_eq]
  rfl

@[simp] theorem State.deinitBus_callRecord (s : State) : s.deinitBus.callRecord = s.callRecord := rfl

@[simp] theorem State.emit_callRecord (s : State) (g : Signal) : (s.emit g).callRecord = s.callRecord := rfl

/-- FinishAck writes no more of the record than the error flag, and that on a NACK (R176, R177). -/
theorem State.finishAck_callRecord {s t u : State} {k : AckKind} (hc : s.finishAckConsume = .next u)
    (hd : u.finishAckDispatch k = .next t) :
    t.callRecord = { s.callRecord with acknowledgeError := s.acknowledgeError || s.nacked k } := by
  obtain ⟨-, hFrame, hDirection, hAddress, hCfgFrame, -, -, -, -, -, -, -, hBit, -, -, hError, -⟩ :=
    State.finishAck_frame hc hd
  simp [State.callRecord, hFrame, hDirection, hAddress, hCfgFrame, hBit, hError]

/-- Every instruction that answers leaves the record `recordAfter` gives. -/
theorem exec_callRecord {i : Instr} {s t : State} (h : exec i s = .next t) :
    t.callRecord = recordAfter i s := by
  cases i with
  | init =>
    cases h
    exact s.initBus_callRecord
  | setAddress =>
    obtain ⟨-, rfl⟩ := execSetAddress_cases h
    rfl
  | setFrame =>
    obtain ⟨-, rfl⟩ := execSetFrame_cases h
    rfl
  | write =>
    obtain ⟨-, -, ab, st, wa, rfl, -⟩ := execWrite_cases h
    rfl
  | read =>
    obtain ⟨-, -, ab, st, wa, rfl, -⟩ := execRead_cases h
    rfl
  | stopWrite =>
    cases h
    simp only [recordAfter]
    split <;> simp
  | stopRead =>
    cases h
    simp only [recordAfter]
    split <;> simp
  | cackSclLow =>
    obtain ⟨u, v, -, rfl, hc, hd⟩ := execCackSclLow_cases h
    exact State.finishAck_callRecord hc hd
  | sackSclLow =>
    obtain ⟨u, hc, hd⟩ := State.finishAck_cases h
    rw [State.finishAck_callRecord hc hd]
    simp [recordAfter, State.callRecord, State.nacked]
  | wbitSda =>
    cases h
    cases s.currentBit <;> rfl
  | sackSda =>
    cases h
    cases (s.sdaSetDirection .outputOpenDrain).moreToRead <;> rfl
  | rbitSclHigh =>
    obtain ⟨u, level, rfl | rfl, rfl⟩ := execRbitSclHigh_cases h <;> rfl
  | wbitSclLow | rbitSclLow =>
    cases h
    rw [State.afterBit_eq]
    rfl
  | _ =>
    cases h
    rfl

/-- A stop command initialises the record only while a transaction is in flight (R39, R196, R197). -/
theorem recordAfter_stop {i : Instr} (s : State) (hi : i = .stopWrite ∨ i = .stopRead) :
    (s.step ≠ 0x00 ∧ recordAfter i s = s.callRecord.initialised) ∨ recordAfter i s = s.callRecord := by
  obtain rfl | rfl := hi
  · cases hcancel : s.currentlyWriting
    · exact .inr (by simp [recordAfter, hcancel])
    · exact .inl ⟨by simp_all [State.currentlyWriting, State.busy], by simp [recordAfter, hcancel]⟩
  · cases hcancel : s.currentlyReading
    · exact .inr (by simp [recordAfter, hcancel])
    · exact .inl ⟨by simp_all [State.currentlyReading, State.busy], by simp [recordAfter, hcancel]⟩

/-! ## The calls on the two lines (R35, R36) -/

/-- What R36 and R35 let an instruction call: SCL is never sampled, no line is made push-pull, and SCL
becomes an input under a stop command only. -/
def PinCall.lawful (i : Instr) : PinCall → Bool
  | .scl (.state _) => false
  | .scl (.setDirection .outputPushPull) | .sda (.setDirection .outputPushPull) => false
  | .scl (.setDirection .input) => decide (i = .stopWrite ∨ i = .stopRead)
  | _ => true

/-- From `s` to `t` the instruction `i` has logged lawful calls alone, and the lines' directions agree. -/
structure LinesLawful (i : Instr) (s t : State) : Prop where
  sda : t.sda.dir = .outputPushPull → s.sda.dir = .outputPushPull
  scl : t.scl.dir = s.scl.dir ∨ t.scl.dir = .outputOpenDrain
  calls : ∃ calls, t.pinCallLog = s.pinCallLog ++ calls ∧ ∀ c ∈ calls, c.lawful i = true

/-- FinishAck leaves the lines alone, and its one call is a `timer.start()`. -/
theorem State.finishAck_lines {s t u : State} {k : AckKind} (hc : s.finishAckConsume = .next u)
    (hd : u.finishAckDispatch k = .next t) : t.sda = s.sda ∧ t.scl = s.scl ∧
      ∃ calls, t.pinCallLog = s.pinCallLog ++ calls ∧ ∀ c ∈ calls, c = .timerStart := by
  obtain ⟨-, -, -, -, -, -, -, -, hScl, hSda, -, -, -, -, -, -, -, hEnd, -⟩ := State.finishAck_frame hc hd
  obtain ⟨-, -, hLog, -⟩ | ⟨-, -, hLog, -⟩ := hEnd
  · exact ⟨hSda, hScl, [.timerStart], hLog, by simp⟩
  · exact ⟨hSda, hScl, [], by simpa using hLog, by simp⟩

/-- What FinishAck's caller has done lawfully stays lawful at its end. -/
theorem LinesLawful.finishAck {i : Instr} {s t u v : State} {k : AckKind} (hs : LinesLawful i s u)
    (hc : u.finishAckConsume = .next v) (hd : v.finishAckDispatch k = .next t) : LinesLawful i s t := by
  obtain ⟨hSda, hScl, tail, hTail, hTimer⟩ := State.finishAck_lines hc hd
  obtain ⟨calls, hCalls, hLawful⟩ := hs.calls
  refine ⟨hSda ▸ hs.sda, hScl ▸ hs.scl, calls ++ tail, by rw [hTail, hCalls, List.append_assoc],
    fun c hm => ?_⟩
  obtain hm | hm := List.mem_append.mp hm
  · exact hLawful c hm
  · rw [hTimer c hm]
    rfl

/-- A stop command that cancels runs DeinitBus and then InitBus (R196, R197). -/
theorem linesLawful_cancel {i : Instr} {s : State} {g : Signal} (hi : i = .stopWrite ∨ i = .stopRead) :
    LinesLawful i s (s.deinitBus.initBus.emit g) := by
  rw [State.initBus_eq, State.deinitBus_eq]
  refine ⟨by simp, .inr rfl, [.scl (.setDirection .input), .sda (.setDirection .input), .timerStop,
    .scl .set, .sda .set, .scl (.setDirection .outputOpenDrain), .sda (.setDirection .outputOpenDrain)],
    by simp, ?_⟩
  simp [PinCall.lawful, hi]

/-- Every instruction keeps to R36: its calls, in the order it makes them. -/
theorem exec_linesLawful {i : Instr} {s t : State} (h : exec i s = .next t) : LinesLawful i s t := by
  cases i with
  | init =>
    cases h
    rw [State.initBus_eq]
    exact ⟨by simp, .inr rfl, _, rfl, by decide⟩
  | setAddress =>
    obtain ⟨-, rfl⟩ := execSetAddress_cases h
    exact ⟨id, .inl rfl, [], by simp, by simp⟩
  | setFrame =>
    obtain ⟨-, rfl⟩ := execSetFrame_cases h
    exact ⟨id, .inl rfl, [], by simp, by simp⟩
  | write =>
    obtain ⟨-, -, ab, st, wa, rfl, -⟩ := execWrite_cases h
    exact ⟨id, .inl rfl, [.timerStart], rfl, by simp [PinCall.lawful]⟩
  | read =>
    obtain ⟨-, -, ab, st, wa, rfl, -⟩ := execRead_cases h
    exact ⟨id, .inl rfl, [.timerStart], rfl, by simp [PinCall.lawful]⟩
  | stopWrite =>
    cases h
    split
    · exact linesLawful_cancel (.inl rfl)
    · exact ⟨id, .inl rfl, [], by simp, by simp⟩
  | stopRead =>
    cases h
    split
    · exact linesLawful_cancel (.inr rfl)
    · exact ⟨id, .inl rfl, [], by simp, by simp⟩
  | setFrequency | idle =>
    cases h
    exact ⟨id, .inl rfl, [], by simp, by simp⟩
  | startSdaLow | stopSdaLow =>
    cases h
    exact ⟨id, .inl rfl, [.sda .reset, .timerStart], by simp, by decide⟩
  | restartSdaHigh =>
    cases h
    exact ⟨id, .inl rfl, [.sda .set, .timerStart], by simp, by decide⟩
  | stopSdaHigh =>
    cases h
    exact ⟨id, .inl rfl, [.sda .set], by simp, by decide⟩
  | startSclLow =>
    cases h
    exact ⟨id, .inl rfl, [.scl .reset, .timerStart], by simp, by decide⟩
  | wbitSclLow | rbitSclLow =>
    cases h
    rw [State.afterBit_eq]
    exact ⟨id, .inl rfl, [.scl .reset, .timerStart], by simp, by decide⟩
  | restartSclHigh | wbitSclHigh | sackSclHigh | stopSclHigh =>
    cases h
    exact ⟨id, .inl rfl, [.scl .set, .timerStart], by simp, by decide⟩
  | wbitSda =>
    cases h
    cases s.currentBit
    · exact ⟨id, .inl rfl, [.sda .reset, .timerStart], by simp, by decide⟩
    · exact ⟨id, .inl rfl, [.sda .set, .timerStart], by simp, by decide⟩
  | sackSda =>
    cases h
    cases (s.sdaSetDirection .outputOpenDrain).moreToRead
    · exact ⟨by simp, .inl rfl, [.sda (.setDirection .outputOpenDrain), .sda .set, .timerStart], by simp,
        by decide⟩
    · exact ⟨by simp, .inl rfl, [.sda (.setDirection .outputOpenDrain), .sda .reset, .timerStart], by simp,
        by decide⟩
  | cackSclHigh =>
    cases h
    exact ⟨by simp, .inl rfl, [.sda (.setDirection .input), .scl .set, .timerStart], by simp, by decide⟩
  | rbitSclHigh =>
    obtain ⟨u, level, rfl | rfl, rfl⟩ := execRbitSclHigh_cases h
    · exact ⟨by simp, .inl rfl, [.sda (.setDirection .input), .sda (.state level), .scl .set, .timerStart],
        by simp, by simp [PinCall.lawful]⟩
    · exact ⟨id, .inl rfl, [.sda (.state level), .scl .set, .timerStart], by simp,
        by simp [PinCall.lawful]⟩
  | cackSclLow =>
    obtain ⟨u, v, -, rfl, hc, hd⟩ := execCackSclLow_cases h
    refine LinesLawful.finishAck ?_ hc hd
    exact ⟨by simp, .inl rfl, [.sda (.state (s.sdaWire s.envLowSda)), .scl .reset,
      .sda (.setDirection .outputOpenDrain)], by simp, by simp [PinCall.lawful]⟩
  | sackSclLow =>
    obtain ⟨u, hc, hd⟩ := State.finishAck_cases h
    refine LinesLawful.finishAck ?_ hc hd
    exact ⟨id, .inl rfl, [.scl .reset], by simp, by decide⟩

/-! ## The statements -/

/-- Settles O43: `recordAfter` writes each register under its own command alone. -/
theorem configurationIsWrittenByItsCommandAlone : Obligations.ConfigurationIsWrittenByItsCommandAlone := by
  unfold Obligations.ConfigurationIsWrittenByItsCommandAlone
  refine ⟨fun i s t h => ?_, fun s => by simp [State.initBus_eq], rfl, rfl⟩
  have hAddress : t.cfgAddress = (recordAfter i s).cfgAddress := congrArg (·.cfgAddress) (exec_callRecord h)
  have hFrame : t.cfgFrame = (recordAfter i s).cfgFrame := congrArg (·.cfgFrame) (exec_callRecord h)
  have hstop := recordAfter_stop (i := i) s
  rw [hAddress, hFrame]
  cases i with
  | stopWrite | stopRead =>
    obtain ⟨-, hrecord⟩ | hrecord := hstop (by simp) <;> simp [hrecord]
  | _ => simp [recordAfter]

/-- Settles O44: `recordAfter` writes the direction and the frame under WRITE, READ and InitBus alone. -/
theorem transferDirectionAndFrameAreWrittenByWriteAndRead :
    Obligations.TransferDirectionAndFrameAreWrittenByWriteAndRead := by
  unfold Obligations.TransferDirectionAndFrameAreWrittenByWriteAndRead
  refine ⟨fun i s t h => ?_, rfl, rfl⟩
  have hDirection : t.lastOperationWasWrite = (recordAfter i s).lastOperationWasWrite :=
    congrArg (·.lastOperationWasWrite) (exec_callRecord h)
  have hFrame : t.lastFrame = (recordAfter i s).lastFrame := congrArg (·.lastFrame) (exec_callRecord h)
  have hstop := recordAfter_stop (i := i) s
  rw [hDirection, hFrame]
  cases i with
  | stopWrite | stopRead =>
    obtain ⟨hbusy, hrecord⟩ | hrecord := hstop (by simp)
    · rw [hrecord]
      simpa using .inr hbusy
    · simp [hrecord]
  | _ => simp [recordAfter]

/-- Settles O45: `recordAfter` writes the flags under the check-acknowledge, and clears them under WRITE,
READ and InitBus. -/
theorem acknowledgeFlagsAreWrittenByTheCheckAlone :
    Obligations.AcknowledgeFlagsAreWrittenByTheCheckAlone := by
  unfold Obligations.AcknowledgeFlagsAreWrittenByTheCheckAlone
  refine ⟨fun i s t h => ?_, rfl, rfl⟩
  have hBit : t.acknowledgeBit = (recordAfter i s).acknowledgeBit :=
    congrArg (·.acknowledgeBit) (exec_callRecord h)
  have hError : t.acknowledgeError = (recordAfter i s).acknowledgeError :=
    congrArg (·.acknowledgeError) (exec_callRecord h)
  have hstop := recordAfter_stop (i := i) s
  rw [hBit, hError]
  cases i with
  | stopWrite | stopRead =>
    obtain ⟨hbusy, hrecord⟩ | hrecord := hstop (by simp)
    · rw [hrecord]
      simpa using .inr hbusy
    · simp [hrecord]
  | _ => simp [recordAfter]

/-- Settles O46, by the calls of each instruction. -/
theorem linesAreNeverPushPullAndSclIsNeverSampled :
    Obligations.LinesAreNeverPushPullAndSclIsNeverSampled := by
  unfold Obligations.LinesAreNeverPushPullAndSclIsNeverSampled
  refine ⟨fun i s t h => ?_, fun s => ⟨by simp [State.initBus_eq], fun d => ⟨rfl, rfl⟩⟩, rfl⟩
  obtain ⟨hSda, hScl, calls, hCalls, hLawful⟩ := exec_linesLawful h
  refine ⟨hSda, hScl, calls, hCalls, fun level hm => ?_, fun hm => ?_, fun hm => ?_, fun hm => ?_⟩
  · cases hLawful _ hm
  · cases hLawful _ hm
  · cases hLawful _ hm
  · simpa [PinCall.lawful] using hLawful _ hm

end Sys2Proof.Machine

/-! PROOFS for spec/20_memory.md: which instructions write `BUF`, and where (R62). -/

namespace Sys2Proof.Machine

/-- What FinishAck's second part starts next is read from `BUF` and not written to it (R177). -/
theorem State.finishAckDispatch_buf {s t : State} {k : AckKind} (h : s.finishAckDispatch k = .next t) :
    t.buf = s.buf := by
  obtain ⟨-, rfl⟩ | ⟨-, -, -, d, -, -, rfl⟩ | ⟨-, -, -, rfl⟩ | ⟨-, -, -, rfl⟩ | ⟨-, -, -, rfl⟩ :=
    State.finishAckDispatch_cases h <;> rfl

/-- FinishAck finds a received payload byte: the call is a read, past its address byte (R26, R28, R176). -/
def State.HoldsReceivedByte (s : State) : Prop := s.writingAddress = false ∧ s.lastOperationWasWrite = false

/-- An address byte or a byte of a write is in flight exactly where no received byte is. -/
theorem State.not_holdsReceivedByte_iff {s : State} :
    ¬s.HoldsReceivedByte ↔ s.writingAddress = true ∨ s.lastOperationWasWrite = true := by
  simp only [State.HoldsReceivedByte, not_and_or, Bool.not_eq_false]

/-- `buf` is the buffer space of `s` with the byte received in `s` stored in its place, `data + dataIndex`
(R62). -/
def State.StoredIn (s : State) (buf : List Host.Cell) : Prop :=
  ∃ d, s.data = some d ∧ d + s.dataIndex < 2 ^ s.widths.aw ∧
    buf = Memory.write s.buf (d + s.dataIndex) s.activeByte

/-- FinishAck stores a received payload byte, and of any other byte leaves `BUF` as it was (R62, R176). -/
theorem State.finishAck_buf {s t u : State} {k : AckKind} (hc : s.finishAckConsume = .next u)
    (hd : u.finishAckDispatch k = .next t) :
    (¬s.HoldsReceivedByte ∧ t.buf = s.buf) ∨ (s.HoldsReceivedByte ∧ s.StoredIn t.buf) := by
  rw [State.finishAckDispatch_buf hd]
  obtain ⟨haddr, rfl⟩ | ⟨-, hwrite, rfl⟩ | ⟨haddr, hread, d, hdata, hlt, rfl⟩ :=
    State.finishAckConsume_cases hc
  · exact .inl ⟨State.not_holdsReceivedByte_iff.mpr (.inl haddr), rfl⟩
  · exact .inl ⟨State.not_holdsReceivedByte_iff.mpr (.inr hwrite), rfl⟩
  · exact .inr ⟨⟨haddr, hread⟩, d, hdata, hlt, rfl⟩

/-- FinishAck's two steps do to `BUF` what it does: their line calls before it leave alone what it reads
(R172, R175). -/
theorem exec_buf_of_finishAck {i : Instr} {s t : State} (h : exec i s = .next t)
    (hi : i = .cackSclLow ∨ i = .sackSclLow) :
    (¬s.HoldsReceivedByte ∧ t.buf = s.buf) ∨ (s.HoldsReceivedByte ∧ s.StoredIn t.buf) := by
  obtain rfl | rfl := hi
  · obtain ⟨u, v, -, rfl, hc, hd⟩ := execCackSclLow_cases h
    have hbuf := State.finishAck_buf hc hd
    exact hbuf
  · obtain ⟨u, hc, hd⟩ := State.finishAck_cases h
    have hbuf := State.finishAck_buf hc hd
    exact hbuf

/-- No instruction but the two that run FinishAck writes `BUF` (R62). -/
theorem exec_buf_of_ne {i : Instr} {s t : State} (h : exec i s = .next t) (hcack : i ≠ .cackSclLow)
    (hsack : i ≠ .sackSclLow) : t.buf = s.buf := by
  cases i with
  | cackSclLow => exact absurd rfl hcack
  | sackSclLow => exact absurd rfl hsack
  | init =>
    cases h
    rw [State.initBus_eq]
  | setAddress =>
    obtain ⟨-, rfl⟩ := execSetAddress_cases h
    rfl
  | setFrame =>
    obtain ⟨-, rfl⟩ := execSetFrame_cases h
    rfl
  | write =>
    obtain ⟨-, -, ab, st, wa, rfl, -⟩ := execWrite_cases h
    rfl
  | read =>
    obtain ⟨-, -, ab, st, wa, rfl, -⟩ := execRead_cases h
    rfl
  | stopWrite | stopRead =>
    cases h
    split
    · rw [State.initBus_eq, State.deinitBus_eq]
      rfl
    · rfl
  | wbitSda =>
    cases h
    cases s.currentBit <;> rfl
  | sackSda =>
    cases h
    cases (s.sdaSetDirection .outputOpenDrain).moreToRead <;> rfl
  | rbitSclHigh =>
    obtain ⟨u, level, rfl | rfl, rfl⟩ := execRbitSclHigh_cases h <;> rfl
  | wbitSclLow | rbitSclLow =>
    cases h
    rw [State.afterBit_eq]
    rfl
  | _ =>
    cases h
    rfl

/-- Without a received byte for FinishAck to store, an instruction leaves `BUF` as it was (R62). -/
theorem exec_buf_kept {i : Instr} {s t : State} (h : exec i s = .next t)
    (hnone : i = .cackSclLow ∨ i = .sackSclLow → ¬s.HoldsReceivedByte) : t.buf = s.buf := by
  by_cases hi : i = .cackSclLow ∨ i = .sackSclLow
  · obtain ⟨-, hkept⟩ | ⟨hheld, -⟩ := exec_buf_of_finishAck h hi
    · exact hkept
    · exact absurd hheld (hnone hi)
  · obtain ⟨hcack, hsack⟩ := not_or.mp hi
    exact exec_buf_of_ne h hcack hsack

/-- With a received byte, FinishAck stores it (R62). -/
theorem exec_buf_stored {i : Instr} {s t : State} (h : exec i s = .next t)
    (hi : i = .cackSclLow ∨ i = .sackSclLow) (hheld : s.HoldsReceivedByte) : s.StoredIn t.buf := by
  obtain ⟨hnone, -⟩ | ⟨-, hstored⟩ := exec_buf_of_finishAck h hi
  · exact absurd hheld hnone
  · exact hstored

/-- A canonical `BUF` reads a written byte back. -/
theorem State.byteAt_of_write_same {s t : State} {a : Nat} {v : Byte}
    (ht : t.buf = Memory.write s.buf a v) (hwf : Memory.wf s.widths.aw s.buf = true) : t.byteAt a = v := by
  rw [State.byteAt, ht]
  exact Memory.read_write_same s.buf a v hwf

/-- Every byte but the written one reads as it did. -/
theorem State.byteAt_of_write_other {s t : State} {a b : Nat} {v : Byte}
    (ht : t.buf = Memory.write s.buf a v) (hne : b ≠ a) : t.byteAt b = s.byteAt b := by
  rw [State.byteAt, ht]
  exact Memory.read_write_other s.buf a b v hne

/-- Settles O47: FinishAck stores a received byte, and of the two steps that run it the hypothesis leaves
only SACK_SCL_LOW one to store. -/
theorem bufferIsWrittenOnlyWithReceivedBytes : Obligations.BufferIsWrittenOnlyWithReceivedBytes := by
  unfold Obligations.BufferIsWrittenOnlyWithReceivedBytes
  intro i s t h hcheck
  refine ⟨fun hne => ?_, fun hsack haddr hread => ?_, fun hsack hother => ?_⟩
  · refine exec_buf_kept h fun hi => State.not_holdsReceivedByte_iff.mpr (hcheck ?_)
    exact hi.resolve_right hne
  · obtain ⟨d, hdata, -, hbuf⟩ := exec_buf_stored h (.inr hsack) ⟨haddr, hread⟩
    exact ⟨d, hdata, State.byteAt_of_write_same hbuf, fun a hne => State.byteAt_of_write_other hbuf hne⟩
  · exact exec_buf_kept h fun _ => State.not_holdsReceivedByte_iff.mpr hother

end Sys2Proof.Machine

/-! PROOFS for spec/30_encoding.md: the step codes (R88, R89), the address byte (R85), and what the command
port answers to a triple and does with it (R82, R94). -/

namespace Sys2Proof

/-! ## Value and step codes (R84, R85, R88, R89) -/

/-- The reserved step codes are those from 0x12 up (R89). -/
theorem stepOfCode_eq_none_iff : ∀ code : StepCode, stepOfCode code = none ↔ 0x12 ≤ code.toNat := by
  decide

/-- Settles O3: the table's 18 codes, and the reserved ones above them. -/
theorem stepCodesNameTheirSteps : Obligations.StepCodesNameTheirSteps := by
  unfold Obligations.StepCodesNameTheirSteps
  simpa using fun code => (stepOfCode_eq_none_iff code).mpr

/-- The address byte is the address with the direction bit below it (R85). -/
theorem Machine.addressByte_eq_concat (a : SlaveAddress) (rw : Bool) :
    Machine.addressByte a rw = a.concat rw := by
  ext i hi
  cases i with
  | zero => simp [Machine.addressByte]
  | succ i =>
    have hlt : i < 7 := by omega
    simp [Machine.addressByte, hlt]

/-- Settles O9: the address byte appends the direction bit to the address. -/
theorem addressByteIsAddressAndDirection : Obligations.AddressByteIsAddressAndDirection := by
  unfold Obligations.AddressByteIsAddressAndDirection
  refine ⟨fun a rw => ?_, by decide⟩
  rw [Machine.addressByte_eq_concat]
  refine ⟨?_, BitVec.getLsbD_concat_zero⟩
  rw [BitVec.toNat_concat, Nat.mul_comm]
  cases rw <;> rfl

/-- A frame mode is read back from its code (R84). -/
@[simp] theorem Frame.ofCode_code (f : Frame) : Frame.ofCode f.code = f := by
  cases f <;> rfl

/-- An operand with the value of a frame code has that code in its low bits. -/
theorem Frame.setWidth_eq_code {a : BitVec 32} {f : Frame} (h : a.toNat = f.code.toNat) :
    a.setWidth 2 = f.code := by
  apply BitVec.eq_of_toNat_eq
  rw [BitVec.toNat_setWidth, h, Nat.mod_eq_of_lt f.code.isLt]

/-! ## The command port's decoder (R94), an equation per opcode -/

/-- A triple on the port is decoded by R94. -/
theorem decodeCommand_of_fits {p : Config.Widths} {c : Command} (h : c.b < 2 ^ p.sw) :
    decodeCommand p c = decodeTriple p c := if_pos h

/-- A check that `P` holds, refused where it does not. -/
theorem require_decide {P : Prop} [Decidable P] (r : RefusalReason) (d : Decoded) :
    require (decide P) r d = if P then d else .refused r := by
  simp [require]

/-- A check that `P` does not hold, refused where it does. -/
theorem require_decide_not {P Q : Prop} [Decidable P] [Decidable Q] (h : Q ↔ ¬P) (r : RefusalReason)
    (d : Decoded) : require (decide Q) r d = if P then .refused r else d := by
  by_cases hP : P <;> simp [require, h, hP]

section
variable (p : Config.Widths) (a : BitVec 32) (b : Nat)

theorem decodeTriple_init : decodeTriple p ⟨0x1, a, b⟩ =
    require (decide (a = 0 ∧ b = 0)) .operandNonzero (.instr .init) := rfl

theorem decodeTriple_setAddress : decodeTriple p ⟨0x2, a, b⟩ =
    require (decide (a.toNat ≤ 0x7F)) .operandRange
      (require (decide (b = 0)) .operandNonzero (.instr (.setAddress (a.setWidth 7)))) := rfl

theorem decodeTriple_setFrame : decodeTriple p ⟨0x3, a, b⟩ =
    require (decide (a.toNat ≤ 3)) .operandRange
      (require (decide (b = 0)) .operandNonzero (.instr (.setFrame (Frame.ofCode (a.setWidth 2))))) := rfl

theorem decodeTriple_write : decodeTriple p ⟨0x4, a, b⟩ =
    require (decide (p.bufferFits a b)) .bufferRange (.instr (.write a b)) := rfl

theorem decodeTriple_read : decodeTriple p ⟨0x5, a, b⟩ =
    require (decide (p.bufferFits a b)) .bufferRange (.instr (.read a b)) := rfl

theorem decodeTriple_stopWrite : decodeTriple p ⟨0x6, a, b⟩ =
    require (decide (a = 0 ∧ b = 0)) .operandNonzero (.instr .stopWrite) := rfl

theorem decodeTriple_stopRead : decodeTriple p ⟨0x7, a, b⟩ =
    require (decide (a = 0 ∧ b = 0)) .operandNonzero (.instr .stopRead) := rfl

theorem decodeTriple_setFrequency : decodeTriple p ⟨0x8, a, b⟩ =
    require (decide (b = 0)) .operandNonzero (.instr (.setFrequency a)) := rfl

end

/-- An opcode that is none of the eight commands' is refused (R82). -/
theorem decodeTriple_reserved {p : Config.Widths} {c : Command} (h : c.op.toNat = 0 ∨ 9 ≤ c.op.toNat) :
    decodeTriple p c = .refused .reservedOpcode := by
  have hne (op : BitVec 4) (hdefined : 1 ≤ op.toNat ∧ op.toNat ≤ 8) : c.op ≠ op := by
    rintro rfl
    omega
  simp [decodeTriple, hne]

/-- Settles O4: the decoder's equation for each opcode, with its checks as the statement writes them. -/
theorem portChecksItsOperandsInOrder : Obligations.PortChecksItsOperandsInOrder := by
  unfold Obligations.PortChecksItsOperandsInOrder
  intro p a b hb
  have hport (op : BitVec 4) : decodeCommand p ⟨op, a, b⟩ = decodeTriple p ⟨op, a, b⟩ :=
    decodeCommand_of_fits hb
  have hzero : a = 0 ↔ a.toNat = 0 := BitVec.toNat_eq
  simp only [hport]
  refine ⟨?init, ?setAddress, fun hrange => ?frameRange, fun f hf => ?setFrame, ?write, ?read, ?stopWrite,
    ?stopRead, ?setFrequency, fun op hop => decodeTriple_reserved hop⟩
  case init => simp only [decodeTriple_init, require_decide, hzero]
  case stopWrite => simp only [decodeTriple_stopWrite, require_decide, hzero]
  case stopRead => simp only [decodeTriple_stopRead, require_decide, hzero]
  case setAddress =>
    rw [decodeTriple_setAddress, require_decide_not Nat.not_lt.symm, require_decide_not not_not.symm,
      BitVec.ofNat_toNat]
  case frameRange =>
    rw [decodeTriple_setFrame, require_decide_not Nat.not_lt.symm, if_pos hrange]
  case setFrame =>
    have hle : a.toNat ≤ 3 := by have := f.code.isLt; omega
    rw [decodeTriple_setFrame, require_decide, if_pos hle, require_decide_not not_not.symm,
      Frame.setWidth_eq_code hf, Frame.ofCode_code]
  case write => rw [decodeTriple_write, require_decide_not Nat.not_lt.symm]
  case read => rw [decodeTriple_read, require_decide_not Nat.not_lt.symm]
  case setFrequency => rw [decodeTriple_setFrequency, require_decide_not not_not.symm]

/-! ## A refused triple (R82, R42) -/

namespace Machine

section
variable {s : State} {m : HostMove} {ms : List HostMove}

/-- The next transition is the host's where its move is due (R111). -/
theorem fetch_of_hostDue (hmoves : s.hostMoves = m :: ms) (hdue : s.timerArmed = false ∨ m.afterFires = 0) :
    fetch s = fetchHost m.act { s with hostMoves := ms } := by
  have hfirst : s.hostFirst = true := by simpa [State.hostFirst, hmoves] using hdue
  simp only [fetch, hfirst, hmoves]

/-- A triple the port refuses leaves the state with the reason marked and the move taken (R42). -/
theorem step_of_refusedCommand {c : Command} {r : RefusalReason} (hmoves : s.hostMoves = m :: ms)
    (hdue : s.timerArmed = false ∨ m.afterFires = 0) (hact : m.act = .command c)
    (hdecode : decodeCommand s.widths c = .refused r) :
    step s = .refused (({ s with hostMoves := ms } : State).refuse r) := by
  simp only [step, fetch_of_hostDue hmoves hdue, hact, fetchHost, hdecode]

end

end Machine

/-- Settles O5: the port refuses the opcode, and a refusal marks its reason and changes nothing else. -/
theorem reservedOpcodesAreRefusedAndChangeNothing :
    Obligations.ReservedOpcodesAreRefusedAndChangeNothing := by
  unfold Obligations.ReservedOpcodesAreRefusedAndChangeNothing
  intro s c n ms hmoves hdue hb hop
  have hdecode : decodeCommand s.widths c = .refused .reservedOpcode := by
    rw [decodeCommand_of_fits hb, decodeTriple_reserved hop]
  exact ⟨_, Machine.State.markedBy_mark _ _, Machine.step_of_refusedCommand hmoves hdue rfl hdecode⟩

end Sys2Proof

/-! PROOFS for spec/40_step_engine.md: the fire (R112), the step contract (R113), and the successors of the
dispatch table (R119). -/

namespace Sys2Proof

/-! ## What a transition runs (R111, R112) -/

/-- A check of the port's decoder answers an instruction where it passes and what follows it does (R94). -/
theorem require_eq_instr_iff {ok : Bool} {r : RefusalReason} {d : Decoded} {i : Instr} :
    require ok r d = .instr i ↔ ok = true ∧ d = .instr i := by
  cases ok <;> simp [require]

/-- The command port spells commands alone, no step (R81, R94). -/
theorem decodeCommand_isStep {p : Config.Widths} {c : Command} {i : Instr}
    (h : decodeCommand p c = .instr i) : i.isStep = false := by
  unfold decodeCommand decodeTriple at h
  -- what is left of `h` in each branch names the branch's command
  split_ifs at h <;> simp only [require_eq_instr_iff, Decoded.instr.injEq] at h
  all_goals grind [Instr.isStep]

namespace Machine

section
variable {s : State}

/-- An armed timer fires next where a fire comes before the host's next move (R111, R112). -/
theorem fetch_of_fireDue (harmed : s.timerArmed = true)
    (hmoves : ∀ m ms, s.hostMoves = m :: ms → m.afterFires ≠ 0) :
    fetch s = fetchFire { s with hostMoves := fireCounted s.hostMoves } := by
  have hfirst : s.hostFirst = false := by
    unfold State.hostFirst
    split
    · rfl
    · rename_i m ms hm
      simp [harmed, hmoves m ms hm]
  simp [fetch, hfirst, harmed]

/-- A fire disarms the timer and runs the step register's step (R112). -/
theorem fetchFire_of_step {i : Instr} (hstep : stepOfCode s.step = some i) (hne : i ≠ .idle) :
    fetchFire s = .run i { s with timerArmed := false } := by
  unfold fetchFire
  rw [hstep]
  split
  · contradiction
  · next hidle => exact absurd (Option.some.inj hidle) hne
  · next _ hsome =>
    cases hsome
    rfl

/-- A fire at IDLE or at a reserved code raises UNREACHABLE_STEP (R112). -/
theorem fetchFire_of_unreachable (hstep : s.step = 0x00 ∨ 0x12 ≤ s.step.toNat) :
    fetchFire s = .fault (s.raise .unreachableStep) := by
  obtain hidle | hreserved := hstep
  · simp [fetchFire, hidle]
  · simp [fetchFire, (stepOfCode_eq_none_iff _).mpr hreserved]

/-- The step that runs with the timer disarmed is IDLE: a host move runs a command (R111, R112, R120). -/
theorem fetch_step_of_disarmed {i : Instr} {t : State} (hdisarmed : s.timerArmed = false)
    (h : fetch s = .run i t) (hstep : i.isStep = true) : i = .idle := by
  cases hmoves : s.hostMoves with
  | nil =>
    have hwait : fetchWait s = .run i t := by simpa [fetch, State.hostFirst, hmoves, hdisarmed] using h
    unfold fetchWait at hwait
    split at hwait <;> cases hwait
    rfl
  | cons m ms =>
    rw [fetch_of_hostDue hmoves (.inl hdisarmed)] at h
    unfold fetchHost at h
    split at h <;> split at h <;> cases h
    rename_i hdecode
    rw [decodeCommand_isStep hdecode] at hstep
    cases hstep

end

/-- Settles O11: the fire is what `fetch` answers, and what it runs is `fetchFire`'s. -/
theorem fireRunsTheStepInTheStepRegister : Obligations.FireRunsTheStepInTheStepRegister := by
  unfold Obligations.FireRunsTheStepInTheStepRegister
  refine ⟨fun s i harmed hmoves hstep hne => ?_, fun s harmed hmoves hstep => ?_,
    fun s i t hdisarmed h hstep => fetch_step_of_disarmed hdisarmed h hstep⟩
  · rw [step, (fetch_of_fireDue harmed hmoves).trans (fetchFire_of_step hstep hne)]
  · have hfault : step s =
        .fault (({ s with hostMoves := fireCounted s.hostMoves } : State).raise .unreachableStep) := by
      rw [step, (fetch_of_fireDue harmed hmoves).trans (fetchFire_of_unreachable hstep)]
    exact ⟨_, hfault, fun x => State.mem_mark⟩

/-! ## The step contract (R113) -/

/-- The calls that R113 gives a step beside its `timer.start()`: one level operation at most. -/
abbrev StepCalls (calls : List PinCall) : Prop :=
  calls.countP PinCall.isLevel ≤ 1 ∧ .timerStart ∉ calls ∧ .timerStop ∉ calls

/-- The two ends that R113 gives a step from `s` to `t` with these calls: a successor, for which the timer is
started last, or IDLE. -/
def StepEnd (calls : List PinCall) (s t : State) : Prop :=
  (t.step ≠ 0x00 ∧ t.timerArmed = true ∧ t.pinCallLog = s.pinCallLog ++ calls ++ [.timerStart] ∧
    t.signalLog = s.signalLog) ∨
  (t.step = 0x00 ∧ t.timerArmed = s.timerArmed ∧ t.pinCallLog = s.pinCallLog ++ calls ∧
    ∃ sigs, t.signalLog = s.signalLog ++ sigs ∧ sigs.length ≤ 1)

section
variable {s t u v : State} {calls : List PinCall}

/-- A `goto` ends a step with a successor. -/
theorem StepEnd.goto {code : StepCode} (hcode : code ≠ 0x00) (hlog : u.pinCallLog = s.pinCallLog ++ calls)
    (hsig : u.signalLog = s.signalLog) : StepEnd calls s (u.goto code) :=
  .inl ⟨hcode, rfl, by simp [hlog], hsig⟩

/-- FinishAck ends the step that has made its calls before it (R176, R177). -/
theorem StepEnd.finishAck {k : AckKind} (hc : u.finishAckConsume = .next v)
    (hd : v.finishAckDispatch k = .next t) (hlog : u.pinCallLog = s.pinCallLog ++ calls)
    (hsig : u.signalLog = s.signalLog) (harmed : u.timerArmed = s.timerArmed) : StepEnd calls s t := by
  obtain ⟨-, -, -, -, -, -, -, -, -, -, -, -, -, -, -, -, -, hend, -⟩ := State.finishAck_frame hc hd
  rw [hlog, hsig, harmed] at hend
  obtain hnext | ⟨hstep, htimer, hcalls, g, hg⟩ := hend
  · exact .inl hnext
  · exact .inr ⟨hstep, htimer, hcalls, [g], hg, le_rfl⟩

end

/-- Every step that answers keeps the contract: its calls, in the order it makes them, and its end (R113). -/
theorem exec_stepEnd {i : Instr} {s t : State} (h : exec i s = .next t) (hstep : i.isStep = true)
    (hne : i ≠ .idle) : ∃ calls, StepCalls calls ∧ StepEnd calls s t := by
  cases i with
  | idle => exact absurd rfl hne
  | startSdaLow | stopSdaLow =>
    cases h
    exact ⟨[.sda .reset], by decide, .goto (by decide) rfl rfl⟩
  | restartSdaHigh =>
    cases h
    exact ⟨[.sda .set], by decide, .goto (by decide) rfl rfl⟩
  | startSclLow =>
    cases h
    exact ⟨[.scl .reset], by decide, .goto (by decide) rfl rfl⟩
  | restartSclHigh | wbitSclHigh | sackSclHigh | stopSclHigh =>
    cases h
    exact ⟨[.scl .set], by decide, .goto (by decide) rfl rfl⟩
  | stopSdaHigh =>
    cases h
    exact ⟨[.sda .set], by decide, .inr ⟨rfl, rfl, rfl, [_], rfl, le_rfl⟩⟩
  | wbitSda =>
    cases h
    cases s.currentBit
    · exact ⟨[.sda .reset], by decide, .goto (by decide) rfl rfl⟩
    · exact ⟨[.sda .set], by decide, .goto (by decide) rfl rfl⟩
  | wbitSclLow | rbitSclLow =>
    cases h
    rw [State.afterBit_eq]
    refine ⟨[.scl .reset], by decide, .goto ?_ rfl rfl⟩
    split <;> decide
  | cackSclHigh =>
    cases h
    exact ⟨[.sda (.setDirection .input), .scl .set], by decide, .goto (by decide) (by simp) rfl⟩
  | sackSda =>
    cases h
    cases (s.sdaSetDirection .outputOpenDrain).moreToRead
    · exact ⟨[.sda (.setDirection .outputOpenDrain), .sda .set], by decide,
        .goto (by decide) (by simp) rfl⟩
    · exact ⟨[.sda (.setDirection .outputOpenDrain), .sda .reset], by decide,
        .goto (by decide) (by simp) rfl⟩
  | rbitSclHigh =>
    obtain ⟨u, level, rfl | rfl, rfl⟩ := execRbitSclHigh_cases h
    · exact ⟨[.sda (.setDirection .input), .sda (.state level), .scl .set], by cases level <;> decide,
        .goto (by decide) (by simp) rfl⟩
    · exact ⟨[.sda (.state level), .scl .set], by cases level <;> decide, .goto (by decide) (by simp) rfl⟩
  | cackSclLow =>
    obtain ⟨u, v, -, rfl, hc, hd⟩ := execCackSclLow_cases h
    exact ⟨[.sda (.state (s.sdaWire s.envLowSda)), .scl .reset, .sda (.setDirection .outputOpenDrain)],
      by cases s.sdaWire s.envLowSda <;> decide, .finishAck hc hd (by simp) rfl rfl⟩
  | sackSclLow =>
    obtain ⟨u, hc, hd⟩ := State.finishAck_cases h
    exact ⟨[.scl .reset], by decide, .finishAck hc hd rfl rfl rfl⟩
  | _ => cases hstep

/-- The byte at the payload address is the only one an instruction may change (R62). -/
theorem exec_byteAt_other {i : Instr} {s t : State} {a other : Nat} (h : exec i s = .next t)
    (ha : s.payloadAddress = .next a) (hne : other ≠ a) : t.byteAt other = s.byteAt other := by
  by_cases hi : (i = .cackSclLow ∨ i = .sackSclLow) ∧ s.HoldsReceivedByte
  · obtain ⟨d, hd, rfl⟩ := State.payloadAddress_spec ha
    obtain ⟨e, he, -, hbuf⟩ := exec_buf_stored h hi.1 hi.2
    cases hd.symm.trans he
    exact State.byteAt_of_write_other hbuf hne
  · have hbuf := exec_buf_kept h fun hack hheld => hi ⟨hack, hheld⟩
    rw [State.byteAt, hbuf, State.byteAt]

/-- Settles O41: the calls and the end of each step, and what FinishAck stores. -/
theorem everyStepMeetsTheStepContract : Obligations.EveryStepMeetsTheStepContract := by
  unfold Obligations.EveryStepMeetsTheStepContract
  intro i s t hstep hne h
  obtain ⟨calls, ⟨hlevel, hstart, hstop⟩, hend⟩ := exec_stepEnd h hstep hne
  refine ⟨calls, hlevel, hstart, hstop, fun hnone a => ?_,
    fun a ha other hother => exec_byteAt_other h ha hother, hend⟩
  have hbuf : t.buf = s.buf := exec_buf_kept h fun hi =>
    State.not_holdsReceivedByte_iff.mpr (hnone.resolve_left (not_not_intro hi))
  rw [State.byteAt, hbuf, State.byteAt]

/-! ## The dispatch table (R119) -/

/-- FinishAck goes on with a byte to send, in a write alone, with a byte to receive, with a Stop or with
IDLE (R177). -/
theorem State.finishAck_successor {s t u : State} {k : AckKind} (hc : s.finishAckConsume = .next u)
    (hd : u.finishAckDispatch k = .next t) :
    ∃ j, stepOfCode t.step = some j ∧ j ∈ [.wbitSda, .rbitSclHigh, .stopSdaLow, .idle] ∧
      (j = .wbitSda → s.lastOperationWasWrite = true) := by
  obtain ⟨-, -, -, -, -, -, -, -, -, -, -, -, -, -, -, -, -, -, hcode, hsend⟩ := State.finishAck_frame hc hd
  obtain hcode | hcode | hcode | hcode := hcode
  · exact ⟨.wbitSda, by simp [hcode], by decide, fun _ => hsend hcode⟩
  · exact ⟨.rbitSclHigh, by simp [hcode], by decide, by simp⟩
  · exact ⟨.stopSdaLow, by simp [hcode], by decide, by simp⟩
  · exact ⟨.idle, by simp [hcode], by decide, by simp⟩

/-- The successor of a step that answers stands in its row of R119. -/
theorem exec_step_successor {i : Instr} {s t : State} (h : exec i s = .next t) (hstep : i.isStep = true)
    (hne : i ≠ .idle) (hsack : i = .sackSclLow → s.lastOperationWasWrite = false) :
    ∃ j, stepOfCode t.step = some j ∧ j ∈ successors i := by
  cases i with
  | idle => exact absurd rfl hne
  | cackSclLow =>
    obtain ⟨u, v, -, rfl, hc, hd⟩ := execCackSclLow_cases h
    obtain ⟨j, hj, hmem, -⟩ := State.finishAck_successor hc hd
    exact ⟨j, hj, hmem⟩
  | sackSclLow =>
    obtain ⟨u, hc, hd⟩ := State.finishAck_cases h
    obtain ⟨j, hj, hmem, hsend⟩ := State.finishAck_successor hc hd
    have hread : s.sclReset.lastOperationWasWrite = false := hsack rfl
    refine ⟨j, hj, (List.mem_cons.mp hmem).resolve_left fun hwbit => ?_⟩
    exact Bool.false_ne_true (hread.symm.trans (hsend hwbit))
  | wbitSclLow | rbitSclLow =>
    cases h
    rw [State.afterBit_eq]
    split <;> exact ⟨_, rfl, by decide⟩
  | rbitSclHigh =>
    obtain ⟨u, level, -, rfl⟩ := execRbitSclHigh_cases h
    exact ⟨.rbitSclLow, rfl, by decide⟩
  | startSdaLow | startSclLow | restartSdaHigh | restartSclHigh | wbitSda | wbitSclHigh | cackSclHigh
  | sackSda | sackSclHigh | stopSdaLow | stopSclHigh | stopSdaHigh =>
    cases h
    exact ⟨_, rfl, by decide⟩
  | _ => cases hstep

/-- The commands that begin a call enter the table (R194, R195). -/
theorem exec_transfer_step {i : Instr} {s t : State} (h : exec i s = .next t)
    (hi : (∃ b n, i = .write b n) ∨ (∃ b n, i = .read b n)) :
    ∃ j, stepOfCode t.step = some j ∧ j ∈ [.startSdaLow, .restartSdaHigh, .wbitSda, .rbitSclHigh] := by
  obtain ⟨b, n, rfl⟩ | ⟨b, n, rfl⟩ := hi
  · obtain ⟨-, -, ab, st, wa, rfl, ⟨-, -, rfl, -⟩ | ⟨-, -, rfl, -⟩⟩ := execWrite_cases h
    · exact ⟨.startSdaLow, rfl, by decide⟩
    · exact ⟨.wbitSda, rfl, by decide⟩
  · obtain ⟨-, -, ab, st, wa, rfl, ⟨-, rfl | rfl, -⟩ | ⟨-, -, -, rfl, -⟩⟩ := execRead_cases h
    · exact ⟨.startSdaLow, rfl, by decide⟩
    · exact ⟨.restartSdaHigh, rfl, by decide⟩
    · exact ⟨.rbitSclHigh, rfl, by decide⟩

/-- The other commands keep the step register or, by InitBus, leave the table to IDLE (R190, R200). -/
theorem exec_command_step {i : Instr} {s t : State} (h : exec i s = .next t) (hcommand : i.isStep = false)
    (hwrite : ∀ b n, i ≠ .write b n) (hread : ∀ b n, i ≠ .read b n) : t.step = s.step ∨ t.step = 0x00 := by
  cases i with
  | write b n => exact absurd rfl (hwrite b n)
  | read b n => exact absurd rfl (hread b n)
  | init =>
    cases h
    exact .inr rfl
  | setAddress =>
    obtain ⟨-, rfl⟩ := execSetAddress_cases h
    exact .inl rfl
  | setFrame =>
    obtain ⟨-, rfl⟩ := execSetFrame_cases h
    exact .inl rfl
  | stopWrite | stopRead =>
    cases h
    split
    · exact .inr rfl
    · exact .inl rfl
  | setFrequency =>
    cases h
    exact .inl rfl
  | _ => cases hcommand

/-- Settles O42: the rows of the steps, and the commands' ways into the table and out of it. -/
theorem successorsAreThoseOfTheDispatchTable : Obligations.SuccessorsAreThoseOfTheDispatchTable := by
  unfold Obligations.SuccessorsAreThoseOfTheDispatchTable
  exact ⟨fun i s t hstep hne hsack h => exec_step_successor h hstep hne hsack,
    fun i s t hcommand h => ⟨exec_transfer_step h, exec_command_step h hcommand⟩⟩

end Machine

end Sys2Proof

/-! PROOFS for spec/41_conditions.md: the steps of the Start (R131, R132), the Restart (R133, R134) and the
Stop (R135 to R139). -/

namespace Sys2Proof.Machine

/-! ## A level call and a successor (R113) -/

section
variable (s : State) (code : StepCode)

/-- `SDA.set()` and then a successor, as one record update (R113, R114). -/
theorem State.sdaSet_goto : s.sdaSet.goto code = { s with
    sda := { s.sda with latch := true }, step := code, timerArmed := true
    pinCallLog := s.pinCallLog ++ [.sda .set, .timerStart] } := by
  simp [State.sdaSet, State.goto, State.timerStart, State.logCall]

/-- `SDA.reset()` and then a successor, as one record update (R113, R114). -/
theorem State.sdaReset_goto : s.sdaReset.goto code = { s with
    sda := { s.sda with latch := false }, step := code, timerArmed := true
    pinCallLog := s.pinCallLog ++ [.sda .reset, .timerStart] } := by
  simp [State.sdaReset, State.goto, State.timerStart, State.logCall]

/-- `SCL.set()` and then a successor, as one record update (R113, R114). -/
theorem State.sclSet_goto : s.sclSet.goto code = { s with
    scl := { s.scl with latch := true }, step := code, timerArmed := true
    pinCallLog := s.pinCallLog ++ [.scl .set, .timerStart] } := by
  simp [State.sclSet, State.goto, State.timerStart, State.logCall]

/-- `SCL.reset()` and then a successor, as one record update (R113, R114). -/
theorem State.sclReset_goto : s.sclReset.goto code = { s with
    scl := { s.scl with latch := false }, step := code, timerArmed := true
    pinCallLog := s.pinCallLog ++ [.scl .reset, .timerStart] } := by
  simp [State.sclReset, State.goto, State.timerStart, State.logCall]

end

/-! ## The wires (R115, R116) -/

section
variable {s t : State}

/-- An output whose latch is 0 holds SDA low, whatever the environment drives (R115). -/
theorem State.sdaWire_low (hdir : s.sda.dir ≠ .input) (hlatch : s.sda.latch = false) (envLow : Bool) :
    s.sdaWire envLow = false := by
  simp [State.sdaWire, Line.pullsLow, hdir, hlatch]

/-- SDA's wire is a function of the engine's drive of SDA and the environment's (R115). -/
theorem State.sdaWire_congr (h : t.sda = s.sda) (envLow : Bool) : t.sdaWire envLow = s.sdaWire envLow := by
  rw [State.sdaWire, h, State.sdaWire]

/-- SCL's wire is a function of the engine's drive of SCL (R116). -/
theorem State.sclWire_congr (h : t.scl = s.scl) : t.sclWire = s.sclWire := by
  rw [State.sclWire, h, State.sclWire]

/-- `SDA.set()` does not change a line whose latch is 1 already (R114). -/
theorem State.sdaSet_sda_of_released (h : s.sda.latch = true) : s.sdaSet.sda = s.sda := by
  rw [State.sdaSet_sda, ← h]

end

/-! ## The statements -/

/-- Settles O15: each step is its call and its successor; an output that is reset is low. -/
theorem startPullsSdaLowThenSclLow : Obligations.StartPullsSdaLowThenSclLow := by
  unfold Obligations.StartPullsSdaLowThenSclLow
  refine fun s => ⟨congrArg _ (s.sdaReset_goto 0x02), congrArg _ (s.sclReset_goto 0x05), rfl, rfl,
    fun t h hdir => ?_⟩
  cases h
  have houtput : (s.sdaReset.goto 0x02).sda.dir ≠ .input := by simp [hdir]
  exact ⟨State.sclWire_congr rfl, State.sdaWire_low houtput rfl⟩

/-- Settles O16: each step is its call and its successor; setting a latch that is 1 changes no line. -/
theorem restartReleasesSdaThenScl : Obligations.RestartReleasesSdaThenScl := by
  unfold Obligations.RestartReleasesSdaThenScl
  refine fun s => ⟨congrArg _ (s.sdaSet_goto 0x04), congrArg _ (s.sclSet_goto 0x01), rfl, rfl,
    fun hlatch t envLow h => ?_⟩
  cases h
  exact ⟨State.sclWire_congr rfl, State.sdaWire_congr (State.sdaSet_sda_of_released hlatch) envLow⟩

/-- Settles O17: each step is its call and its successor. -/
theorem stopPullsSdaLowThenRaisesScl : Obligations.StopPullsSdaLowThenRaisesScl := by
  unfold Obligations.StopPullsSdaLowThenRaisesScl
  exact fun s => ⟨congrArg _ (s.sdaReset_goto 0x10), congrArg _ (s.sclSet_goto 0x11), rfl, rfl⟩

/-- Settles O18, by running the step: the release of SDA, ClearContext, IDLE, and CompletionSignal's signal. -/
theorem stopSdaHighReleasesSdaAndReports : Obligations.StopSdaHighReleasesSdaAndReports := by
  unfold Obligations.StopSdaHighReleasesSdaAndReports
  exact fun s => ⟨rfl, rfl⟩

end Sys2Proof.Machine

/-! PROOFS for spec/42_byte_shifter.md: the steps of a transmitted bit (R151 to R153) and of a received bit
(R154, R155). -/

namespace Sys2Proof.Machine

/-! ## The bit count (R153, R155) -/

/-- The 3-bit subtraction wraps at bit 0 to the 7 of a new byte (decision D14). -/
theorem bitIndex_countDown (i : BitVec 3) :
    i - 1 = if i.toNat = 0 then 7 else BitVec.ofNat 3 (i.toNat - 1) := by
  revert i
  decide

/-- `SCL.reset()` and then the end of a bit, as one record update (R153, R155). -/
theorem State.sclReset_afterBit (s : State) (nextBit byteDone : StepCode) :
    s.sclReset.afterBit nextBit byteDone = { s with
      scl := { s.scl with latch := false }, timerArmed := true
      bitIndex := if s.bitIndex.toNat = 0 then 7 else BitVec.ofNat 3 (s.bitIndex.toNat - 1)
      step := if s.bitIndex.toNat = 0 then byteDone else nextBit
      pinCallLog := s.pinCallLog ++ [.scl .reset, .timerStart] } := by
  have hlast : s.bitIndex = 0 ↔ s.bitIndex.toNat = 0 := BitVec.toNat_inj.symm
  rw [← bitIndex_countDown, State.afterBit_eq, State.sclReset_bitIndex]
  simp only [hlast]
  exact State.sclReset_goto { s with bitIndex := s.bitIndex - 1 } _

/-! ## The received bit (R154, R155) -/

/-- `activeByte` with the sampled bit ORed in at its weight, `2 ^ bitIndex` (R155). -/
theorem State.accumulated_eq (s : State) : s.accumulated =
    s.activeByte ||| BitVec.ofNat 8 ((if s.sampledBit then 1 else 0) * 2 ^ s.bitIndex.toNat) := by
  have hweight : ∀ (b : Bool) (i : BitVec 3), (BitVec.ofBool b).setWidth 8 <<< i.toNat =
      BitVec.ofNat 8 ((if b then 1 else 0) * 2 ^ i.toNat) := by decide
  rw [State.accumulated, hweight]

/-- The wire's level, the environment's drive first (R115). -/
theorem State.sdaWire_eq (s : State) (envLow : Bool) :
    s.sdaWire envLow = !(envLow || (decide (s.sda.dir ≠ .input) && !s.sda.latch)) := by
  rw [State.sdaWire, Bool.or_comm, Line.pullsLow]

/-- RBIT_SCL_HIGH from `u`, the state after its direction call where it makes one: the sample of `u`'s wire,
and then SCL's rise (R154). -/
theorem execRbitSclHigh_of_dir {s u : State}
    (hu : (if s.bitIndex = 7 then s.sdaSetDirection .input else s) = u) (hdir : u.sda.dir ≠ .outputPushPull) :
    exec .rbitSclHigh s = .next { u with
      scl := { u.scl with latch := true }, sampledBit := u.sdaWire u.envLowSda, step := 0x0B
      timerArmed := true, envDraws := u.envDraws.tail, samplesTaken := u.samplesTaken + 1
      pinCallLog := u.pinCallLog ++ [.sda (.state (u.sdaWire u.envLowSda)), .scl .set, .timerStart] } := by
  rw [exec, execRbitSclHigh, hu, State.sdaSample_of_dir hdir]
  simp [State.sclSet_goto]

/-! ## The statements -/

/-- Settles O19: a 1 is `SDA.set()` and a 0 is `SDA.reset()`, each with its successor. -/
theorem wbitSdaDrivesTheCurrentBit : Obligations.WbitSdaDrivesTheCurrentBit := by
  unfold Obligations.WbitSdaDrivesTheCurrentBit
  refine fun s => ⟨?_, rfl⟩
  rw [exec, execWbitSda, State.currentBit]
  cases s.activeByte.getLsbD s.bitIndex.toNat
  · exact congrArg _ (s.sdaReset_goto 0x06)
  · exact congrArg _ (s.sdaSet_goto 0x06)

/-- Settles O20: each step is its call on SCL and its successor, after the second the end of a bit. -/
theorem wbitClocksTheBitAndCountsDown : Obligations.WbitClocksTheBitAndCountsDown := by
  unfold Obligations.WbitClocksTheBitAndCountsDown
  exact fun s => ⟨congrArg _ (s.sclSet_goto 0x07), congrArg _ (s.sclReset_afterBit 0x05 0x08), rfl, rfl⟩

/-- Settles O21: the sample is taken in the old state or, at a byte's first bit, with SDA made an input, and
neither is push-pull. -/
theorem rbitSclHighSamplesBeforeSclRises : Obligations.RbitSclHighSamplesBeforeSclRises := by
  unfold Obligations.RbitSclHighSamplesBeforeSclRises
  refine fun s hdir => ⟨?_, rfl⟩
  by_cases hfirst : s.bitIndex = 7
  · have hinput : (s.sdaSetDirection .input).sda.dir ≠ .outputPushPull := by simp
    rw [execRbitSclHigh_of_dir (if_pos hfirst) hinput, State.sdaWire_eq]
    simp only [if_pos hfirst]
    rfl
  · rw [execRbitSclHigh_of_dir (if_neg hfirst) (hdir.resolve_left hfirst), State.sdaWire_eq]
    simp only [if_neg hfirst, List.append_nil]

/-- Settles O22: SCL falls, and the bit ends with `activeByte` accumulated. -/
theorem rbitSclLowAccumulatesTheSampledBit : Obligations.RbitSclLowAccumulatesTheSampledBit := by
  unfold Obligations.RbitSclLowAccumulatesTheSampledBit
  refine fun s => ⟨?_, rfl⟩
  rw [← State.accumulated_eq]
  exact congrArg _ (State.sclReset_afterBit { s with activeByte := s.accumulated } 0x0A 0x0C)

end Sys2Proof.Machine

/-! PROOFS for spec/43_acknowledge.md: the clock's rise in a check-acknowledge (R171), and the acknowledge bit of
a received byte (R173, R174). -/

namespace Sys2Proof.Machine

/-! ## A direction call, a level call and a successor (R113) -/

section
variable (s : State) (d : Direction) (code : StepCode)

/-- `SDA.setDirection(d)`, `SCL.set()` and then a successor, as one record update (R113, R114). -/
theorem State.sdaSetDirection_sclSet_goto : (s.sdaSetDirection d).sclSet.goto code = { s with
    sda := { s.sda with dir := d }, scl := { s.scl with latch := true }, step := code, timerArmed := true
    pinCallLog := s.pinCallLog ++ [.sda (.setDirection d), .scl .set, .timerStart] } := by
  simp [State.sclSet_goto, State.sdaSetDirection, State.logCall]

/-- `SDA.setDirection(d)`, `SDA.set()` and then a successor, as one record update (R113, R114). -/
theorem State.sdaSetDirection_sdaSet_goto : (s.sdaSetDirection d).sdaSet.goto code = { s with
    sda := { dir := d, latch := true }, step := code, timerArmed := true
    pinCallLog := s.pinCallLog ++ [.sda (.setDirection d), .sda .set, .timerStart] } := by
  simp [State.sdaSet_goto, State.sdaSetDirection, State.logCall]

/-- `SDA.setDirection(d)`, `SDA.reset()` and then a successor, as one record update (R113, R114). -/
theorem State.sdaSetDirection_sdaReset_goto : (s.sdaSetDirection d).sdaReset.goto code = { s with
    sda := { dir := d, latch := false }, step := code, timerArmed := true
    pinCallLog := s.pinCallLog ++ [.sda (.setDirection d), .sda .reset, .timerStart] } := by
  simp [State.sdaReset_goto, State.sdaSetDirection, State.logCall]

end

/-! ## The acknowledge bit of a received byte (R173) -/

section
variable {s : State}

/-- While bytes of the call remain, SACK_SDA pulls SDA low: ACK (R173). -/
theorem execSackSda_of_more (hmore : s.dataIndex + 1 < s.dataSize) :
    exec .sackSda s = .next ((s.sdaSetDirection .outputOpenDrain).sdaReset.goto 0x0D) := by
  have hack : (s.sdaSetDirection .outputOpenDrain).moreToRead = true := decide_eq_true hmore
  simp only [exec, execSackSda, hack, if_true]

/-- At the last byte of the call SACK_SDA releases SDA: NACK (R173). -/
theorem execSackSda_of_last (hlast : s.dataSize ≤ s.dataIndex + 1) :
    exec .sackSda s = .next ((s.sdaSetDirection .outputOpenDrain).sdaSet.goto 0x0D) := by
  have hnack : (s.sdaSetDirection .outputOpenDrain).moreToRead = false := decide_eq_false hlast.not_gt
  simp only [exec, execSackSda, hnack, Bool.false_eq_true, if_false]

end

/-! ## The statements -/

/-- Settles O25: the step is its two calls and its successor. -/
theorem cackSclHighReleasesSdaAndRaisesScl : Obligations.CackSclHighReleasesSdaAndRaisesScl := by
  unfold Obligations.CackSclHighReleasesSdaAndRaisesScl
  exact fun s => ⟨congrArg _ (s.sdaSetDirection_sclSet_goto .input 0x09), rfl⟩

/-- Settles O29: SACK_SDA by whether bytes of the call remain, and then SCL's rise. -/
theorem sackDrivesAckUntilTheLastByte : Obligations.SackDrivesAckUntilTheLastByte := by
  unfold Obligations.SackDrivesAckUntilTheLastByte
  refine fun s => ⟨fun hmore => ?_, fun hlast => ?_, congrArg _ (s.sclSet_goto 0x0E), rfl, rfl⟩
  · rw [execSackSda_of_more hmore, State.sdaSetDirection_sdaReset_goto]
  · rw [execSackSda_of_last hlast, State.sdaSetDirection_sdaSet_goto]

end Sys2Proof.Machine

/-! PROOFS for spec/44_commands.md: the eight host commands, idle and while a transaction is in flight (R190 to
R200). -/

namespace Sys2Proof.Machine

/-! ## The conditions the commands test (R38, R39, R84, R195) -/

/-- `busy` is a step register that is not IDLE (R38). -/
theorem State.busy_iff {s : State} : s.busy = true ↔ s.step ≠ 0x00 := by
  simp [State.busy]

/-- An idle engine's step register is IDLE (R38). -/
theorem State.busy_eq_false_iff {s : State} : s.busy = false ↔ s.step = 0x00 := by
  simp [State.busy]

/-- *Currently writing* (R39). -/
theorem State.currentlyWriting_iff {s : State} :
    s.currentlyWriting = true ↔ s.step ≠ 0x00 ∧ s.lastOperationWasWrite = true := by
  simp [State.currentlyWriting, State.busy_iff]

/-- *Currently reading* (R39). -/
theorem State.currentlyReading_iff {s : State} :
    s.currentlyReading = true ↔ s.step ≠ 0x00 ∧ s.lastOperationWasWrite = false := by
  simp [State.currentlyReading, State.busy_iff]

/-- The frames that begin with a Start (R84). -/
theorem beginsWithStart_iff {f : Frame} : beginsWithStart f = true ↔ f = .first ∨ f = .firstAndLast := by
  cases f <;> simp [beginsWithStart]

/-- The frames that begin directly (R84). -/
theorem beginsWithStart_eq_false_iff {f : Frame} : beginsWithStart f = false ↔ f = .next ∨ f = .last := by
  cases f <;> simp [beginsWithStart]

/-- The frames that hold the bus (R84). -/
theorem endsWithStop_eq_false_iff {f : Frame} : endsWithStop f = false ↔ f = .first ∨ f = .next := by
  cases f <;> simp [endsWithStop]

/-- A restart is due after a write that held the bus (R195). -/
theorem State.restartDue_iff {s : State} : s.restartDue = true ↔
    s.lastOperationWasWrite = true ∧ (s.lastFrame = .first ∨ s.lastFrame = .next) := by
  simp [State.restartDue, endsWithStop_eq_false_iff]

/-! ## The commands that need an idle engine (R190) -/

/-- The commands that raise BUSY_COMMAND while a transaction is in flight (R190). -/
def needsIdle : Instr → Bool
  | .setAddress _ | .setFrame _ | .write _ _ | .read _ _ => true
  | _ => false

section
variable {s : State} {i : Instr} {r : FaultReason} {base : BitVec 32} {size : Nat}

/-- A raised fault marks its reason and changes nothing else (R42). -/
theorem exists_markedBy_of_raise (h : exec i s = .fault (s.raise r)) :
    ∃ t, s.MarkedBy t (.fault r) ∧ exec i s = .fault (.raised r t) :=
  ⟨_, s.markedBy_mark _, h⟩

/-- While a transaction is in flight each of these commands raises BUSY_COMMAND (R190). -/
theorem exec_of_busy (hi : needsIdle i = true) (hbusy : s.step ≠ 0x00) :
    exec i s = .fault (s.raise .busyCommand) := by
  cases i with
  | setAddress | setFrame | write | read => exact if_pos (State.busy_iff.mpr hbusy)
  | _ => cases hi

/-- SET_ADDRESS on an idle engine (R192). -/
theorem exec_setAddress_of_idle (a : SlaveAddress) (hidle : s.step = 0x00) :
    exec (.setAddress a) s = .next { s with cfgAddress := a } := by
  simp [exec, execSetAddress, State.busy_eq_false_iff.mpr hidle]

/-- SET_FRAME on an idle engine (R193). -/
theorem exec_setFrame_of_idle (f : Frame) (hidle : s.step = 0x00) :
    exec (.setFrame f) s = .next { s with cfgFrame := f } := by
  simp [exec, execSetFrame, State.busy_eq_false_iff.mpr hidle]

/-! ## WRITE and READ on an idle engine (R194, R195) -/

/-- A WRITE whose frame begins with a Start (R194). -/
theorem exec_write_of_start (hidle : s.step = 0x00) (hstart : beginsWithStart s.cfgFrame = true) :
    exec (.write base size) s =
      .next (((s.recordCall base size true).beginAddressByte false).goto 0x01) := by
  simp [exec, execWrite, State.busy_eq_false_iff.mpr hidle, hstart]

/-- A direct WRITE loads payload byte 0 from `BUF` (R194). -/
theorem exec_write_of_direct (hidle : s.step = 0x00) (hdirect : beginsWithStart s.cfgFrame = false)
    (hsize : size ≠ 0) (hbase : base.toNat < 2 ^ s.widths.aw) :
    exec (.write base size) s = .next (({ s.recordCall base size true with
      writingAddress := false, activeByte := s.byteAt base.toNat, bitIndex := 7 } : State).goto 0x05) := by
  have hbyte := State.beginWriteByte_of
    (s := { s.recordCall base size true with writingAddress := false }) rfl hbase
  simp only [exec, execWrite, State.busy_eq_false_iff.mpr hidle, hdirect, hsize, hbyte]
  rfl

/-- A direct WRITE without a payload (R194). -/
theorem exec_write_of_emptyDirect (hidle : s.step = 0x00) (hdirect : beginsWithStart s.cfgFrame = false)
    (hsize : size = 0) : exec (.write base size) s = .fault (s.raise .emptyDirectTransfer) := by
  simp [exec, execWrite, State.busy_eq_false_iff.mpr hidle, hdirect, hsize]

/-- A READ whose frame begins with a Start (R195). -/
theorem exec_read_of_start (hidle : s.step = 0x00) (hstart : beginsWithStart s.cfgFrame = true) :
    exec (.read base size) s =
      .next (((s.recordCall base size false).beginAddressByte true).goto 0x01) := by
  simp [exec, execRead, State.busy_eq_false_iff.mpr hidle, hstart]

/-- A READ that begins with a Restart, whatever its size (R195). -/
theorem exec_read_of_restart (hidle : s.step = 0x00) (hdirect : beginsWithStart s.cfgFrame = false)
    (hrestart : s.restartDue = true) : exec (.read base size) s =
      .next (((s.recordCall base size false).beginAddressByte true).goto 0x03) := by
  simp [exec, execRead, State.busy_eq_false_iff.mpr hidle, hdirect, hrestart]

/-- A direct READ receives at once (R195). -/
theorem exec_read_of_direct (hidle : s.step = 0x00) (hdirect : beginsWithStart s.cfgFrame = false)
    (hrestart : s.restartDue = false) (hsize : size ≠ 0) : exec (.read base size) s =
      .next ({ s.recordCall base size false with
        writingAddress := false } : State).beginReadByte.timerStart := by
  simp [exec, execRead, State.busy_eq_false_iff.mpr hidle, hdirect, hrestart, hsize]

/-- A direct READ without a payload (R195). -/
theorem exec_read_of_emptyDirect (hidle : s.step = 0x00) (hdirect : beginsWithStart s.cfgFrame = false)
    (hrestart : s.restartDue = false) (hsize : size = 0) :
    exec (.read base size) s = .fault (s.raise .emptyDirectTransfer) := by
  simp [exec, execRead, State.busy_eq_false_iff.mpr hidle, hdirect, hrestart, hsize]

end

/-! ## The stop commands (R196, R197) -/

/-- DeinitBus, InitBus and the signal leave the cancelled state (R196, R197, R199, R200). -/
theorem State.deinitBus_initBus_emit (s : State) (g : Signal) :
    s.deinitBus.initBus.emit g = cancelled s g := by
  simp [State.initBus_eq, State.deinitBus_eq, State.emit, cancelled]

/-- STOP_WRITE cancels a write in flight, and else reports that there is none (R196). -/
theorem exec_stopWrite (s : State) : exec .stopWrite s =
    .next (if s.currentlyWriting then cancelled s .writeStopped else s.emit (.error .notWriting)) := by
  rw [exec, execStopWrite, State.deinitBus_initBus_emit]

/-- STOP_READ cancels a read in flight, and else reports that there is none (R197). -/
theorem exec_stopRead (s : State) : exec .stopRead s =
    .next (if s.currentlyReading then cancelled s .readStopped else s.emit (.error .notReading)) := by
  rw [exec, execStopRead, State.deinitBus_initBus_emit]

/-! ## The commands' pin calls (R190) -/

/-- The one call of WRITE and READ is `timer.start()` (R194, R195). -/
theorem exec_transfer_pinCallLog {i : Instr} {s t : State} (h : exec i s = .next t)
    (hi : (∃ b n, i = .write b n) ∨ (∃ b n, i = .read b n)) :
    t.pinCallLog = s.pinCallLog ++ [.timerStart] := by
  obtain ⟨b, n, rfl⟩ | ⟨b, n, rfl⟩ := hi
  · obtain ⟨-, -, ab, st, wa, rfl, -⟩ := execWrite_cases h
    rfl
  · obtain ⟨-, -, ab, st, wa, rfl, -⟩ := execRead_cases h
    rfl

/-- Every other command but INIT and a cancelling stop command makes no call (R190). -/
theorem exec_command_pinCallLog {i : Instr} {s t : State} (h : exec i s = .next t)
    (hcommand : i.isStep = false) :
    i = .init ∨ (∃ b n, i = .write b n) ∨ (∃ b n, i = .read b n) ∨
      (i = .stopWrite ∧ s.currentlyWriting = true) ∨ (i = .stopRead ∧ s.currentlyReading = true) ∨
      t.pinCallLog = s.pinCallLog := by
  cases i with
  | init => exact .inl rfl
  | write b n => exact .inr (.inl ⟨b, n, rfl⟩)
  | read b n => exact .inr (.inr (.inl ⟨b, n, rfl⟩))
  | setAddress =>
    obtain ⟨-, rfl⟩ := execSetAddress_cases h
    simp
  | setFrame =>
    obtain ⟨-, rfl⟩ := execSetFrame_cases h
    simp
  | stopWrite =>
    cases h
    split
    · next hwriting => simp [hwriting]
    · simp
  | stopRead =>
    cases h
    split
    · next hreading => simp [hreading]
    · simp
  | setFrequency =>
    cases h
    simp
  | _ => cases hcommand

/-! ## The statements -/

/-- Settles O32: INIT is InitBus. -/
theorem initResetsTheBusInAnyState : Obligations.InitResetsTheBusInAnyState := by
  unfold Obligations.InitResetsTheBusInAnyState
  exact fun s => congrArg Host.Outcome.next s.initBus_eq

/-- Settles O33, by whether the engine is idle. -/
theorem configurationCommandsWriteTheirRegister : Obligations.ConfigurationCommandsWriteTheirRegister := by
  unfold Obligations.ConfigurationCommandsWriteTheirRegister
  exact fun s a f => ⟨fun hidle => ⟨exec_setAddress_of_idle a hidle, exec_setFrame_of_idle f hidle⟩,
    fun hbusy => ⟨_, s.markedBy_mark _, exec_of_busy rfl hbusy, exec_of_busy rfl hbusy⟩⟩

/-- Settles O34, by the frame and the size. -/
theorem writeBeginsItsTransfer : Obligations.WriteBeginsItsTransfer := by
  unfold Obligations.WriteBeginsItsTransfer
  refine fun s base size => ⟨fun hidle hframe => ?_, fun hidle hframe hsize hbase => ?_,
    fun hidle hframe hsize => ?_, fun hbusy => ?_⟩
  · exact exec_write_of_start hidle (beginsWithStart_iff.mpr hframe)
  · exact exec_write_of_direct hidle (beginsWithStart_eq_false_iff.mpr hframe) hsize hbase
  · exact exists_markedBy_of_raise
      (exec_write_of_emptyDirect hidle (beginsWithStart_eq_false_iff.mpr hframe) hsize)
  · exact exists_markedBy_of_raise (exec_of_busy rfl hbusy)

/-- Settles O35, by the frame, then the restart test on the state before the command, then the size. -/
theorem readBeginsItsTransfer : Obligations.ReadBeginsItsTransfer := by
  unfold Obligations.ReadBeginsItsTransfer
  intro s base size restart begun
  have hnotDue (hnone : ¬restart) : s.restartDue = false :=
    Bool.eq_false_iff.mpr fun hdue => hnone (State.restartDue_iff.mp hdue)
  refine ⟨fun hidle hframe => ?_, fun hidle hframe hrestart => ?_, fun hidle hframe hnone hsize => ?_,
    fun hidle hframe hnone hsize => ?_, fun hbusy => ?_⟩
  · exact exec_read_of_start hidle (beginsWithStart_iff.mpr hframe)
  · exact exec_read_of_restart hidle (beginsWithStart_eq_false_iff.mpr hframe)
      (State.restartDue_iff.mpr hrestart)
  · exact exec_read_of_direct hidle (beginsWithStart_eq_false_iff.mpr hframe) (hnotDue hnone) hsize
  · exact exists_markedBy_of_raise
      (exec_read_of_emptyDirect hidle (beginsWithStart_eq_false_iff.mpr hframe) (hnotDue hnone) hsize)
  · exact exists_markedBy_of_raise (exec_of_busy rfl hbusy)

/-- Settles O36: a stop command cancels exactly where its direction's transaction is in flight. -/
theorem stopCommandsCancelOrReport : Obligations.StopCommandsCancelOrReport := by
  unfold Obligations.StopCommandsCancelOrReport
  intro s
  rw [exec_stopWrite, exec_stopRead]
  refine ⟨fun hbusy hwrite => ?_, fun hnone => ?_, fun hbusy hread => ?_, fun hnone => ?_⟩
  · rw [if_pos (State.currentlyWriting_iff.mpr ⟨hbusy, hwrite⟩)]
  · rw [if_neg (by simpa [State.currentlyWriting_iff, imp_iff_not_or] using hnone), State.emit]
  · rw [if_pos (State.currentlyReading_iff.mpr ⟨hbusy, hread⟩)]
  · rw [if_neg (by simpa [State.currentlyReading_iff, imp_iff_not_or] using hnone), State.emit]

/-- Settles O37: the command's meaning is its state. -/
theorem setFrequencyChangesNothing : Obligations.SetFrequencyChangesNothing := by
  unfold Obligations.SetFrequencyChangesNothing
  exact fun _ _ => rfl

/-- Settles O38: the calls of each command, and what each does while busy, by the commands' own statements. -/
theorem commandsWhileATransactionIsInFlight : Obligations.CommandsWhileATransactionIsInFlight := by
  unfold Obligations.CommandsWhileATransactionIsInFlight
  refine ⟨fun i s t hcommand h => ⟨exec_transfer_pinCallLog h, ?_⟩, fun s hbusy => ?_⟩
  · simpa only [State.currentlyWriting_iff, State.currentlyReading_iff] using
      exec_command_pinCallLog h hcommand
  obtain ⟨hcancelWrite, hnotWriting, hcancelRead, hnotReading⟩ := stopCommandsCancelOrReport s
  refine ⟨fun i hi => exists_markedBy_of_raise (exec_of_busy ?_ hbusy),
    ⟨_, initResetsTheBusInAnyState s, rfl, rfl, rfl, rfl⟩, ?_, ?_, setFrequencyChangesNothing s⟩
  · obtain ⟨_, rfl⟩ | ⟨_, rfl⟩ | ⟨_, _, rfl⟩ | ⟨_, _, rfl⟩ := hi <;> rfl
  · split
    · next hwrite => exact hcancelWrite hbusy hwrite
    · next hread => exact hnotWriting (.inr (Bool.eq_false_iff.mpr hread))
  · split
    · next hwrite => exact hnotReading (.inr hwrite)
    · next hread => exact hcancelRead hbusy (Bool.eq_false_iff.mpr hread)

end Sys2Proof.Machine

/-! PROOFS for spec/70_reset_and_hazards.md: the reset procedure (R260). -/

namespace Sys2Proof.Machine

/-- The reset procedure as one record update: InitBus's, with the configuration registers (R200, R260). -/
theorem State.hardReset_eq (s : State) : s.hardReset = { s with
    activeByte := 0, bitIndex := 7, sampledBit := false, data := none, dataSize := 0, dataIndex := 0,
    writingAddress := false, acknowledgeBit := false, acknowledgeError := false,
    lastFrame := .firstAndLast, lastOperationWasWrite := false, step := 0x00,
    cfgAddress := 0x00, cfgFrame := .firstAndLast, timerArmed := false,
    sda := { dir := .outputOpenDrain, latch := true }, scl := { dir := .outputOpenDrain, latch := true },
    pinCallLog := s.pinCallLog ++ [.timerStop, .scl .set, .sda .set,
      .scl (.setDirection .outputOpenDrain), .sda (.setDirection .outputOpenDrain)] } := by
  rw [State.hardReset, State.initBus_eq]

/-- From an empty `faults` set and empty logs the reset procedure gives the start of a run: only the
model's widths, buffer space and pending inputs are the state's own (R44, R260). -/
theorem State.hardReset_of_empty_logs {s : State} (hfaults : s.faults = []) (hsignals : s.signalLog = [])
    (hcalls : s.pinCallLog = []) :
    s.hardReset = { State.reset with
      widths := s.widths, buf := s.buf, hostMoves := s.hostMoves, envDraws := s.envDraws,
      samplesTaken := s.samplesTaken } := by
  rw [State.hardReset_eq, hfaults, hsignals, hcalls]
  rfl

/-- Settles O2: the reset procedure is InitBus's record update with the two configuration registers, and
an empty log is extended by the five calls `State.reset` starts with. -/
theorem hardResetPerformsInitBusAndSetsTheConfiguration :
    Obligations.HardResetPerformsInitBusAndSetsTheConfiguration :=
  ⟨State.hardReset_eq, fun _ => State.hardReset_of_empty_logs⟩

end Sys2Proof.Machine

/-! PROOFS for spec/30_encoding.md: the decoder and the encoder undo each other (R81, R88, R94). -/

namespace Sys2Proof

/-! ## Decoding what was encoded -/

/-- A triple that is on the port is decoded by R94. -/
theorem decode_command_of_fits {p : Config.Widths} {op : BitVec 4} {a : BitVec 32} {b : Nat}
    (hfits : b < 2 ^ p.sw) : decode p (.command ⟨op, a, b⟩) = decodeTriple p ⟨op, a, b⟩ :=
  decodeCommand_of_fits hfits

/-- A check that passes hands over to what follows it (R94). -/
theorem require_of {P : Prop} [Decidable P] {r : RefusalReason} {d : Decoded} (hP : P) :
    require (decide P) r d = d := by
  rw [require_decide, if_pos hP]

/-- A 7-bit address is in the range of operand A and is read back from it (R83). -/
theorem SlaveAddress.setWidth_operand (addr : SlaveAddress) :
    (addr.setWidth 32).toNat ≤ 0x7F ∧ (addr.setWidth 32).setWidth 7 = addr := by
  have hlt := addr.isLt
  have hvalue : (addr.setWidth 32).toNat = addr.toNat := BitVec.toNat_setWidth_of_le (by decide)
  exact ⟨by omega, BitVec.setWidth_setWidth_of_le addr (by decide)⟩

/-- A frame code is in the range of operand A, and its mode is read back from it (R84). -/
theorem Frame.ofCode_operand (f : Frame) :
    (f.code.setWidth 32).toNat ≤ 3 ∧ Frame.ofCode ((f.code.setWidth 32).setWidth 2) = f := by
  cases f <;> decide

/-- What well-formedness asks of the operands of WRITE and READ (R80, R83). -/
theorem Instr.wf_transfer_iff {p : Config.Widths} {i : Instr} {base : BitVec 32} {size : Nat}
    (hi : i = .write base size ∨ i = .read base size) :
    i.wf p = true ↔ p.sizeFits size ∧ p.bufferFits base size := by
  obtain rfl | rfl := hi <;> simp [Instr.wf]

/-- Settles O6: each command's triple passes the checks of its decoder equation, and each step's code names
its step. -/
theorem decodingAnEncodedInstructionGivesItBack : Obligations.DecodingAnEncodedInstructionGivesItBack := by
  unfold Obligations.DecodingAnEncodedInstructionGivesItBack
  intro p i hwf
  have hzero : 0 < 2 ^ p.sw := Nat.two_pow_pos _
  cases i with
  | init | stopWrite | stopRead | setFrequency => exact decode_command_of_fits hzero
  | setAddress addr =>
    obtain ⟨hrange, hback⟩ := addr.setWidth_operand
    rw [encode, decode_command_of_fits hzero, decodeTriple_setAddress, require_of hrange, require_of rfl,
      hback]
  | setFrame frame =>
    obtain ⟨hrange, hback⟩ := frame.ofCode_operand
    rw [encode, decode_command_of_fits hzero, decodeTriple_setFrame, require_of hrange, require_of rfl,
      hback]
  | write base size =>
    obtain ⟨hsize, hbuffer⟩ := (Instr.wf_transfer_iff (.inl rfl)).mp hwf
    rw [encode, decode_command_of_fits hsize, decodeTriple_write, require_of hbuffer]
  | read base size =>
    obtain ⟨hsize, hbuffer⟩ := (Instr.wf_transfer_iff (.inr rfl)).mp hwf
    rw [encode, decode_command_of_fits hsize, decodeTriple_read, require_of hbuffer]
  | _ => rfl

/-! ## Encoding what was decoded -/

/-- The steps have no operands, so each is well-formed (R83). -/
theorem Instr.wf_of_isStep {p : Config.Widths} {i : Instr} (h : i.isStep = true) : i.wf p = true := by
  cases i with
  | init | setAddress | setFrame | write | read | stopWrite | stopRead | setFrequency => cases h
  | _ => rfl

/-- An operand in the range of an address is that address, zero-extended (R83). -/
theorem SlaveAddress.setWidth_of_range {a : BitVec 32} (h : a.toNat ≤ 0x7F) :
    (a.setWidth 7).setWidth 32 = a := by
  apply BitVec.eq_of_toNat_eq
  simp only [BitVec.toNat_setWidth]
  omega

/-- An operand in the range of a frame code is the code of the mode it spells (R84). -/
theorem Frame.code_of_range {a : BitVec 32} (h : a.toNat ≤ 3) :
    (Frame.ofCode (a.setWidth 2)).code.setWidth 32 = a := by
  have hcode : ∀ c : BitVec 2, (Frame.ofCode c).code = c := by decide
  apply BitVec.eq_of_toNat_eq
  rw [hcode]
  simp only [BitVec.toNat_setWidth]
  omega

/-- The triple of an admitted command is read back from the command, and the command's operands passed the
port's checks (R94). -/
theorem encode_of_decodeTriple {p : Config.Widths} {c : Command} {i : Instr} (hfits : p.sizeFits c.b)
    (h : decodeTriple p c = .instr i) : encode i = .command c ∧ i.wf p = true := by
  obtain ⟨op, a, b⟩ := c
  unfold decodeTriple at h
  -- one goal per opcode, in the order of R94; the reserved ones answer no instruction
  split_ifs at h with hop hop hop hop hop hop hop hop <;> cases hop <;>
    simp only [require_eq_instr_iff, Decoded.instr.injEq, decide_eq_true_eq] at h
  · obtain ⟨⟨rfl, rfl⟩, rfl⟩ := h
    exact ⟨rfl, rfl⟩
  · obtain ⟨hrange, rfl, rfl⟩ := h
    exact ⟨by rw [encode, SlaveAddress.setWidth_of_range hrange]; rfl, rfl⟩
  · obtain ⟨hrange, rfl, rfl⟩ := h
    exact ⟨by rw [encode, Frame.code_of_range hrange]; rfl, rfl⟩
  · obtain ⟨hbuffer, rfl⟩ := h
    exact ⟨rfl, (Instr.wf_transfer_iff (.inl rfl)).mpr ⟨hfits, hbuffer⟩⟩
  · obtain ⟨hbuffer, rfl⟩ := h
    exact ⟨rfl, (Instr.wf_transfer_iff (.inr rfl)).mpr ⟨hfits, hbuffer⟩⟩
  · obtain ⟨⟨rfl, rfl⟩, rfl⟩ := h
    exact ⟨rfl, rfl⟩
  · obtain ⟨⟨rfl, rfl⟩, rfl⟩ := h
    exact ⟨rfl, rfl⟩
  · obtain ⟨rfl, rfl⟩ := h
    exact ⟨rfl, rfl⟩

/-- What the command port admits is well-formed, and its triple is read back from it (R80, R94). -/
theorem encode_of_decodeCommand {p : Config.Widths} {c : Command} {i : Instr}
    (h : decodeCommand p c = .instr i) : encode i = .command c ∧ i.wf p = true := by
  unfold decodeCommand at h
  split at h
  · exact encode_of_decodeTriple (by assumption) h
  · cases h

/-- Settles O7: the command port by its opcodes, the step register by its codes. -/
theorem encodingADecodedInstructionGivesTheBitsBack :
    Obligations.EncodingADecodedInstructionGivesTheBitsBack := by
  unfold Obligations.EncodingADecodedInstructionGivesTheBitsBack
  intro p e i h
  cases e with
  | command c => exact encode_of_decodeCommand h
  | step code =>
    simp only [decode] at h
    split at h
    · next hstep =>
      cases h
      obtain ⟨hcode, hisStep⟩ := stepOfCode_some hstep
      exact ⟨hcode, Instr.wf_of_isStep hisStep⟩
    · cases h

/-- Settles O8, by decoding each of the words. -/
theorem writtenOutWordsDecode : Obligations.WrittenOutWordsDecode := by
  unfold Obligations.WrittenOutWordsDecode
  decide

end Sys2Proof

/-! PROOFS for spec/43_acknowledge.md: CACK_SCL_LOW and SACK_SCL_LOW with what FinishAck does in them (R172,
R175 to R178). -/

namespace Sys2Proof.Machine

/-! ## The byte is consumed (R176) -/

section
variable {s : State} {d : Nat}

/-- FinishAck's first part after an address byte (R176). -/
theorem State.finishAckConsume_address (haddr : s.writingAddress = true) :
    s.finishAckConsume = .next { s with writingAddress := false } := by
  simp [State.finishAckConsume, haddr]

/-- FinishAck's first part after a payload byte of a write (R176). -/
theorem State.finishAckConsume_sent (haddr : s.writingAddress = false)
    (hwrite : s.lastOperationWasWrite = true) :
    s.finishAckConsume = .next { s with dataIndex := s.dataIndex + 1 } := by
  simp [State.finishAckConsume, haddr, hwrite]

/-- FinishAck's first part after a received payload byte (R176). -/
theorem State.finishAckConsume_received (hheld : s.HoldsReceivedByte) (hdata : s.data = some d)
    (hlt : d + s.dataIndex < 2 ^ s.widths.aw) :
    s.finishAckConsume = .next { s with
      buf := Memory.write s.buf (d + s.dataIndex) s.activeByte, dataIndex := s.dataIndex + 1 } := by
  obtain ⟨haddr, hread⟩ := hheld
  simp [State.finishAckConsume, haddr, hread, State.storeReceived_of hdata hlt]

/-- CACK_SCL_LOW after a transmitted byte: the sample, the line calls and the count, and then FinishAck's
second part (R172, R176). -/
theorem exec_cackSclLow_of_dir (hdir : s.sda.dir ≠ .outputPushPull)
    (hsent : s.writingAddress = true ∨ s.lastOperationWasWrite = true) :
    exec .cackSclLow s = (ackSampled s (s.sdaWire s.envLowSda)).finishAckDispatch .check := by
  simp only [exec, execCackSclLow, State.sdaSample_of_dir hdir, andThen_of_next, State.finishAck]
  obtain haddr | haddr := Bool.eq_false_or_eq_true s.writingAddress
  · rw [State.finishAckConsume_address (by exact haddr)]
    simp [ackSampled, haddr, State.sclReset, State.sdaSetDirection, State.logCall]
  · have hwrite : s.lastOperationWasWrite = true := hsent.resolve_left (by simp [haddr])
    rw [State.finishAckConsume_sent (by exact haddr) (by exact hwrite)]
    simp [ackSampled, haddr, State.sclReset, State.sdaSetDirection, State.logCall]

/-- SACK_SCL_LOW's registers before FinishAck's second part: SCL low, and the byte stored and counted (R175,
R176). -/
def received (s : State) (d : Nat) : State := { s with
  buf := Memory.write s.buf (d + s.dataIndex) s.activeByte, dataIndex := s.dataIndex + 1
  scl := { s.scl with latch := false }, pinCallLog := s.pinCallLog ++ [.scl .reset] }

/-- SACK_SCL_LOW after a received byte: SCL's fall, the store and the count, and then FinishAck's second part
(R175, R176). -/
theorem exec_sackSclLow_of_data (hheld : s.HoldsReceivedByte) (hdata : s.data = some d)
    (hlt : d + s.dataIndex < 2 ^ s.widths.aw) :
    exec .sackSclLow s = (received s d).finishAckDispatch .set := by
  rw [exec, execSackSclLow, State.finishAck,
    State.finishAckConsume_received (s := s.sclReset) hheld hdata hlt]
  rfl

end

/-! ## The statements -/

/-- The frames that end with a Stop (R84). -/
theorem endsWithStop_iff {f : Frame} : endsWithStop f = true ↔ f = .last ∨ f = .firstAndLast := by
  cases f <;> simp [endsWithStop]

/-- Settles O26: the byte is consumed, and FinishAck finds the NACK. -/
theorem nackAfterATransmittedByteForcesAStop : Obligations.NackAfterATransmittedByteForcesAStop := by
  unfold Obligations.NackAfterATransmittedByteForcesAStop
  intro s hdir hlevel hsent
  rw [exec_cackSclLow_of_dir hdir hsent, hlevel, State.finishAckDispatch_nack rfl]
  rfl

/-- Settles O27: the byte is counted, and FinishAck goes on by what is pending and by the frame. -/
theorem ackDuringAWriteGoesOnOrEnds : Obligations.AckDuringAWriteGoesOnOrEnds := by
  unfold Obligations.AckDuringAWriteGoesOnOrEnds
  intro s hdir hlevel hwrite t
  have hexec : exec .cackSclLow s = t.finishAckDispatch .check := by
    rw [exec_cackSclLow_of_dir hdir (.inr hwrite), hlevel]
  rw [hexec]
  refine ⟨fun d hmore hdata hlt => ?_, fun hdone hframe => ?_, fun hdone hframe => ?_⟩
  · exact State.finishAckDispatch_send rfl hmore hwrite hdata hlt
  · exact State.finishAckDispatch_stop rfl hdone (endsWithStop_iff.mpr hframe)
  · have hsignal : t.successSignal = .dataWritten := if_pos hwrite
    rw [State.finishAckDispatch_hold rfl hdone (endsWithStop_eq_false_iff.mpr hframe), hsignal]
    rfl

/-- Settles O28: the address byte is consumed, and FinishAck goes on by what is pending and by the frame. -/
theorem ackOfAReadAddressStartsReceiving : Obligations.AckOfAReadAddressStartsReceiving := by
  unfold Obligations.AckOfAReadAddressStartsReceiving
  intro s hdir hlevel hread haddr t
  have hexec : exec .cackSclLow s = t.finishAckDispatch .check := by
    rw [exec_cackSclLow_of_dir hdir (.inl haddr), hlevel]
  have hindex : t.dataIndex = s.dataIndex := if_pos haddr
  rw [hexec]
  refine ⟨fun hmore => ?_, fun hdone hframe => ?_, fun hdone hframe => ?_⟩
  · exact State.finishAckDispatch_receive rfl (hindex.trans_lt hmore) hread
  · exact State.finishAckDispatch_stop rfl (hdone.trans_eq hindex.symm) (endsWithStop_iff.mpr hframe)
  · have hsignal : t.successSignal = .dataAvailable := if_neg (by simp [t, ackSampled, hread])
    rw [State.finishAckDispatch_hold (s := t) rfl (hdone.trans_eq hindex.symm)
      (endsWithStop_eq_false_iff.mpr hframe), hsignal]
    rfl

/-- Settles O30: the byte is stored and counted, and FinishAck goes on by what remains and by the frame. -/
theorem sackSclLowStoresTheByteAndGoesOn : Obligations.SackSclLowStoresTheByteAndGoesOn := by
  unfold Obligations.SackSclLowStoresTheByteAndGoesOn
  intro s d hwf haddr hread hdata hlt
  have hexec := exec_sackSclLow_of_data ⟨haddr, hread⟩ hdata hlt
  refine ⟨(received s d).buf, Memory.read_write_same _ _ _ hwf, fun a hne =>
    Memory.read_write_other _ _ _ _ hne, fun hmore => ?_, fun hdone hframe => ?_, fun hdone hframe => ?_⟩
  · rw [hexec, State.finishAckDispatch_receive (s := received s d) rfl hmore hread]
    simp [State.beginReadByte, State.timerStart, State.logCall, received]
  · rw [hexec, State.finishAckDispatch_stop (s := received s d) rfl hdone (endsWithStop_iff.mpr hframe)]
    simp [State.goto, State.timerStart, State.logCall, received]
  · have hsignal : (received s d).successSignal = .dataAvailable :=
      if_neg (by simp [received, hread])
    rw [hexec, State.finishAckDispatch_hold (s := received s d) rfl hdone
      (endsWithStop_eq_false_iff.mpr hframe), hsignal]
    rfl

end Sys2Proof.Machine

/-! PROOFS for spec/40_step_engine.md: everything a transition can be, whether it answers or stops (R111,
R112), the order of a command and a fire (D38), the wait in IDLE (R120), and the host's store (R70, R71). -/

namespace Sys2Proof.Machine

/-! ## The host's move (R111) -/

section
variable {s : State} {m : HostMove} {ms : List HostMove}

/-- A triple the port admits runs as the command it spells (R111, R190). -/
theorem step_of_command {c : Command} {i : Instr} (hmoves : s.hostMoves = m :: ms)
    (hdue : s.timerArmed = false ∨ m.afterFires = 0) (hact : m.act = .command c)
    (hdecode : decodeCommand s.widths c = .instr i) : step s = exec i { s with hostMoves := ms } := by
  simp only [step, fetch_of_hostDue hmoves hdue, hact, fetchHost, hdecode]

/-- The host's store where it has one (R71, log entry 9). -/
theorem step_of_store {addr : Nat} {v : Byte} (hmoves : s.hostMoves = m :: ms)
    (hdue : s.timerArmed = false ∨ m.afterFires = 0) (hact : m.act = .store addr v)
    (hmay : s.hostMayStore addr = true) :
    step s = .next { s with hostMoves := ms, buf := Memory.write s.buf addr v } := by
  have hmay' : State.hostMayStore { s with hostMoves := ms } addr = true := hmay
  simp only [step, fetch_of_hostDue hmoves hdue, hact, fetchHost, hmay', if_true]

/-- The host's store where it has none (R70, log entry 9). -/
theorem step_of_noStore {addr : Nat} {v : Byte} (hmoves : s.hostMoves = m :: ms)
    (hdue : s.timerArmed = false ∨ m.afterFires = 0) (hact : m.act = .store addr v)
    (hmay : s.hostMayStore addr = false) : step s = .refused (.noHostMove addr) := by
  have hmay' : State.hostMayStore { s with hostMoves := ms } addr = false := hmay
  simp only [step, fetch_of_hostDue hmoves hdue, hact, fetchHost, hmay', Bool.false_eq_true, if_false]

/-- A B wider than the port is no triple (log entry 2). -/
theorem step_of_notATriple {c : Command} (hmoves : s.hostMoves = m :: ms)
    (hdue : s.timerArmed = false ∨ m.afterFires = 0) (hact : m.act = .command c)
    (hdecode : decodeCommand s.widths c = .notATriple ∨ decodeCommand s.widths c = .reservedStep) :
    step s = .refused .notATriple := by
  obtain hdecode | hdecode := hdecode <;>
    simp only [step, fetch_of_hostDue hmoves hdue, hact, fetchHost, hdecode]

/-! ## The fire and the wait (R112, R120) -/

/-- A fire that is due runs the step register's step on the state with the timer disarmed (R112). -/
theorem step_of_fire {i : Instr} (harmed : s.timerArmed = true)
    (hmoves : ∀ m ms, s.hostMoves = m :: ms → m.afterFires ≠ 0) (hstep : stepOfCode s.step = some i)
    (hne : i ≠ .idle) :
    step s = exec i { s with timerArmed := false, hostMoves := fireCounted s.hostMoves } := by
  rw [step, (fetch_of_fireDue harmed hmoves).trans (fetchFire_of_step hstep hne)]

/-- A fire that is due at IDLE or at a reserved code (R112). -/
theorem step_of_unreachable (harmed : s.timerArmed = true)
    (hmoves : ∀ m ms, s.hostMoves = m :: ms → m.afterFires ≠ 0)
    (hstep : s.step = 0x00 ∨ 0x12 ≤ s.step.toNat) :
    step s = .fault (({ s with hostMoves := fireCounted s.hostMoves } : State).raise .unreachableStep) := by
  rw [step, (fetch_of_fireDue harmed hmoves).trans (fetchFire_of_unreachable hstep)]

/-- With no host move and the timer disarmed the engine waits in IDLE and is stuck elsewhere (R9, R120). -/
theorem step_of_wait (hdisarmed : s.timerArmed = false) (hmoves : s.hostMoves = []) :
    step s = if s.busy then .fault .stuck else .next s := by
  cases hbusy : s.busy <;>
    simp [step, fetch, State.hostFirst, hdisarmed, hmoves, fetchWait, hbusy, exec, execIdle]

end

/-! ## Everything a transition can be -/

/-- What the transition from `s` answers, by what it is: a host move that is due, a fire, or waiting (R111,
R112, R120). -/
inductive Transition (s : State) : Result → Prop
  | command {m ms c i} (hmoves : s.hostMoves = m :: ms) (hdecode : decodeCommand s.widths c = .instr i) :
      Transition s (exec i { s with hostMoves := ms })
  | refused {m ms} (r : RefusalReason) (hmoves : s.hostMoves = m :: ms) :
      Transition s (.refused (({ s with hostMoves := ms } : State).refuse r))
  | notATriple : Transition s (.refused .notATriple)
  | stored {m ms addr v} (hmoves : s.hostMoves = m :: ms) (hidle : s.step = 0x00)
      (haddr : addr < 2 ^ s.widths.aw) :
      Transition s (.next { s with hostMoves := ms, buf := Memory.write s.buf addr v })
  | noHostMove (addr : Nat) : Transition s (.refused (.noHostMove addr))
  | fire {i} (harmed : s.timerArmed = true) (hstep : stepOfCode s.step = some i) (hne : i ≠ .idle) :
      Transition s (exec i { s with timerArmed := false, hostMoves := fireCounted s.hostMoves })
  | unreachable (harmed : s.timerArmed = true) (hstep : s.step = 0x00 ∨ 0x12 ≤ s.step.toNat) :
      Transition s
        (.fault (({ s with hostMoves := fireCounted s.hostMoves } : State).raise .unreachableStep))
  | wait (hidle : s.step = 0x00) (hmoves : s.hostMoves = []) : Transition s (.next s)
  | stuck (hdisarmed : s.timerArmed = false) (hbusy : s.busy = true) : Transition s (.fault .stuck)

section
variable {s : State} {m : HostMove} {ms : List HostMove}

/-- A host move that is due is a command, admitted or not, or a store, admitted or not (R111). -/
theorem transition_of_hostDue (hmoves : s.hostMoves = m :: ms)
    (hdue : s.timerArmed = false ∨ m.afterFires = 0) : Transition s (step s) := by
  cases hact : m.act with
  | command c =>
    cases hdecode : decodeCommand s.widths c with
    | instr i => exact step_of_command hmoves hdue hact hdecode ▸ .command hmoves hdecode
    | refused r => exact step_of_refusedCommand hmoves hdue hact hdecode ▸ .refused r hmoves
    | notATriple => exact step_of_notATriple hmoves hdue hact (.inl hdecode) ▸ .notATriple
    | reservedStep => exact step_of_notATriple hmoves hdue hact (.inr hdecode) ▸ .notATriple
  | store addr v =>
    cases hmay : s.hostMayStore addr with
    | true =>
      obtain ⟨hidle, haddr⟩ := State.hostMayStore_iff.mp hmay
      exact step_of_store hmoves hdue hact hmay ▸ .stored hmoves hidle haddr
    | false => exact step_of_noStore hmoves hdue hact hmay ▸ .noHostMove addr

/-- A fire that is due runs a step or is unreachable (R112). -/
theorem transition_of_fireDue (harmed : s.timerArmed = true)
    (hmoves : ∀ m ms, s.hostMoves = m :: ms → m.afterFires ≠ 0) : Transition s (step s) := by
  cases hstep : stepOfCode s.step with
  | none =>
    have hreserved : s.step = 0x00 ∨ 0x12 ≤ s.step.toNat := .inr ((stepOfCode_eq_none_iff _).mp hstep)
    exact step_of_unreachable harmed hmoves hreserved ▸ .unreachable harmed hreserved
  | some i =>
    by_cases hidle : i = .idle
    · subst hidle
      have hcode : s.step = 0x00 := by
        obtain ⟨hencode, -⟩ := stepOfCode_some hstep
        simpa [encode] using hencode.symm
      exact step_of_unreachable harmed hmoves (.inl hcode) ▸ .unreachable harmed (.inl hcode)
    · exact step_of_fire harmed hmoves hstep hidle ▸ .fire harmed hstep hidle

/-- Every step is one of these transitions (R9, R111). -/
theorem step_transition (s : State) : Transition s (step s) := by
  cases hmoves : s.hostMoves with
  | nil =>
    cases harmed : s.timerArmed with
    | true => exact transition_of_fireDue harmed (by simp [hmoves])
    | false =>
      rw [step_of_wait harmed hmoves]
      split
      · next hbusy => exact .stuck harmed hbusy
      · next hbusy => exact .wait (State.busy_eq_false_iff.mp (Bool.eq_false_iff.mpr hbusy)) hmoves
  | cons m ms =>
    by_cases hdue : s.timerArmed = false ∨ m.afterFires = 0
    · exact transition_of_hostDue hmoves hdue
    · obtain ⟨harmed, hlater⟩ := not_or.mp hdue
      refine transition_of_fireDue (by simpa using harmed) fun m' ms' h => ?_
      obtain ⟨rfl, rfl⟩ := List.cons.inj (hmoves.symm.trans h)
      exact hlater

end

/-! ## The statements -/

/-- Settles O10: the host's move is due, and its triple decodes. -/
theorem stepRunsTheDecodedCommand : Obligations.StepRunsTheDecodedCommand := by
  unfold Obligations.StepRunsTheDecodedCommand
  exact fun s c n ms i hmoves hdue hdecode => step_of_command hmoves hdue rfl hdecode

/-- Settles O12: the wait, and the invariant's `timerArmed == busy` at IDLE. -/
theorem idleExecutesNothing : Obligations.IdleExecutesNothing := by
  unfold Obligations.IdleExecutesNothing
  refine ⟨fun s => rfl, fun s hidle hdisarmed hmoves => ?_, fun s hinv hidle => ?_⟩
  · rw [step_of_wait hdisarmed hmoves, State.busy_eq_false_iff.mpr hidle]
    rfl
  · obtain ⟨-, -, -, htimer, -⟩ := hinv
    rw [htimer, State.busy_eq_false_iff.mpr hidle]

/-- Settles O13: the count of fires before the command says which of the two is due. -/
theorem commandAndFireGoInEitherOrder : Obligations.CommandAndFireGoInEitherOrder := by
  unfold Obligations.CommandAndFireGoInEitherOrder
  intro s c ms j i harmed hstep hne hdecode
  refine ⟨?_, fun n => ?_⟩
  · exact step_of_command (s := { s with hostMoves := _ }) rfl (.inr rfl) rfl hdecode
  · refine step_of_fire (s := { s with hostMoves := _ }) harmed (fun m ms' h => ?_) hstep hne
    cases h
    exact n.succ_ne_zero

/-- Settles O14: the host has the store exactly where the engine is idle and `BUF` has the byte. -/
theorem hostStoresOnlyWhileNoTransactionIsInFlight :
    Obligations.HostStoresOnlyWhileNoTransactionIsInFlight := by
  unfold Obligations.HostStoresOnlyWhileNoTransactionIsInFlight
  intro s addr n v ms hwf hmoves hdue
  refine ⟨fun haddr hidle => ?_, fun hnone => ?_⟩
  · exact ⟨_, step_of_store hmoves hdue rfl (State.hostMayStore_iff.mpr ⟨hidle, haddr⟩),
      Memory.read_write_same _ _ _ hwf, fun other hne => Memory.read_write_other _ _ _ _ hne⟩
  · refine step_of_noStore hmoves hdue rfl (Bool.eq_false_iff.mpr fun hmay => ?_)
    obtain ⟨hidle, haddr⟩ := State.hostMayStore_iff.mp hmay
    exact hnone.elim haddr.not_ge (absurd hidle)

end Sys2Proof.Machine

/-! PROOFS of what the instructions leave alone: the widths (R7), the marks (R42), the logs (R43, R121), the
draws (R117), and the frames of the steps and of the commands. -/

namespace Sys2Proof.Machine

/-! ## The widths, the marks and the inputs to come (R7, R42, R117) -/

/-- The two steps that sample SDA (R154, R172). -/
def samplesSda : Instr → Bool
  | .cackSclLow | .rbitSclHigh => true
  | _ => false

/-- From `s` to `t` the instruction `i` has kept the widths, the marks and the host's moves, and has used up
a draw where it samples. -/
structure InputsKept (i : Instr) (s t : State) : Prop where
  widths : t.widths = s.widths
  faults : t.faults = s.faults
  hostMoves : t.hostMoves = s.hostMoves
  envDraws : t.envDraws = bif samplesSda i then s.envDraws.tail else s.envDraws
  samplesTaken : t.samplesTaken = bif samplesSda i then s.samplesTaken + 1 else s.samplesTaken

/-- FinishAck keeps all of these (R176, R177). -/
theorem State.finishAck_inputsKept {s t u : State} {k : AckKind} (hc : s.finishAckConsume = .next u)
    (hd : u.finishAckDispatch k = .next t) : InputsKept .sackSclLow s t := by
  obtain ⟨hwidths, -, -, -, -, hfaults, hmoves, -, -, -, -, -, -, hdraws, htaken, -⟩ :=
    State.finishAck_frame hc hd
  exact ⟨hwidths, hfaults, hmoves, hdraws, htaken⟩

/-- Every instruction that answers keeps the widths, the marks and the inputs to come. -/
theorem exec_inputsKept {i : Instr} {s t : State} (h : exec i s = .next t) : InputsKept i s t := by
  cases i with
  | init =>
    cases h
    rw [State.initBus_eq]
    exact ⟨rfl, rfl, rfl, rfl, rfl⟩
  | setAddress =>
    obtain ⟨-, rfl⟩ := execSetAddress_cases h
    exact ⟨rfl, rfl, rfl, rfl, rfl⟩
  | setFrame =>
    obtain ⟨-, rfl⟩ := execSetFrame_cases h
    exact ⟨rfl, rfl, rfl, rfl, rfl⟩
  | write =>
    obtain ⟨-, -, ab, st, wa, rfl, -⟩ := execWrite_cases h
    exact ⟨rfl, rfl, rfl, rfl, rfl⟩
  | read =>
    obtain ⟨-, -, ab, st, wa, rfl, -⟩ := execRead_cases h
    exact ⟨rfl, rfl, rfl, rfl, rfl⟩
  | stopWrite | stopRead =>
    cases h
    split
    · rw [State.deinitBus_initBus_emit]
      exact ⟨rfl, rfl, rfl, rfl, rfl⟩
    · exact ⟨rfl, rfl, rfl, rfl, rfl⟩
  | wbitSda =>
    cases h
    cases s.currentBit <;> constructor <;> simp [samplesSda]
  | sackSda =>
    cases h
    cases (s.sdaSetDirection .outputOpenDrain).moreToRead <;> constructor <;> simp [samplesSda]
  | wbitSclLow | rbitSclLow =>
    cases h
    rw [State.afterBit_eq]
    constructor <;> simp [samplesSda]
  | rbitSclHigh =>
    obtain ⟨u, level, rfl | rfl, rfl⟩ := execRbitSclHigh_cases h <;> constructor <;> simp [samplesSda]
  | cackSclLow =>
    obtain ⟨u, v, -, rfl, hc, hd⟩ := execCackSclLow_cases h
    obtain ⟨hwidths, hfaults, hmoves, hdraws, htaken⟩ := State.finishAck_inputsKept hc hd
    exact ⟨hwidths, hfaults, hmoves, hdraws.trans List.drop_one, htaken⟩
  | sackSclLow =>
    obtain ⟨u, hc, hd⟩ := State.finishAck_cases h
    obtain ⟨hwidths, hfaults, hmoves, hdraws, htaken⟩ := State.finishAck_inputsKept hc hd
    exact ⟨hwidths, hfaults, hmoves, hdraws, htaken⟩
  | setFrequency | idle =>
    cases h
    exact ⟨rfl, rfl, rfl, rfl, rfl⟩
  | _ =>
    cases h
    constructor <;> simp [samplesSda]

/-- Every transition that answers keeps the widths and the marks (R7, R42). -/
theorem step_widths_faults {s t : State} (h : step s = .next t) :
    t.widths = s.widths ∧ t.faults = s.faults := by
  obtain ⟨n, c, ms, i, -, -, hexec⟩ | ⟨i, -, -, -, hexec⟩ | ⟨-, -, -, rfl⟩ | ⟨n, addr, v, ms, -, -, -, rfl⟩ :=
    step_cases h
  · have hkept := exec_inputsKept hexec
    exact ⟨hkept.widths, hkept.faults⟩
  · have hkept := exec_inputsKept hexec
    exact ⟨hkept.widths, hkept.faults⟩
  · exact ⟨rfl, rfl⟩
  · exact ⟨rfl, rfl⟩

/-- Settles O55. -/
theorem widthsNeverChange : Obligations.WidthsNeverChange := by
  unfold Obligations.WidthsNeverChange
  exact fun s t h => (step_widths_faults h).left

/-- A line that is not an output has the environment's level (R115, R117). -/
theorem State.sdaWire_of_input {s : State} (hdir : s.sda.dir = .input) (envLow : Bool) :
    s.sdaWire envLow = !envLow := by
  simp [State.sdaWire, Line.pullsLow, hdir]

/-- CACK_SCL_LOW keeps the level it samples in `acknowledgeBit` (R172). -/
theorem exec_cackSclLow_acknowledgeBit {s t : State} (h : exec .cackSclLow s = .next t) :
    t.acknowledgeBit = s.sdaWire s.envLowSda :=
  congrArg CallRecord.acknowledgeBit (exec_callRecord h)

/-- RBIT_SCL_HIGH keeps the environment's level in `sampledBit` where SDA is an input after its direction
call (R154, R117). -/
theorem exec_rbitSclHigh_sampledBit {s t : State} (h : exec .rbitSclHigh s = .next t)
    (hinput : s.bitIndex ≠ 7 → s.sda.dir = .input) : t.sampledBit = !s.envLowSda := by
  have ht := execRbitSclHigh_spec h
  by_cases hfirst : s.bitIndex = 7
  · rw [if_pos hfirst] at ht
    rw [ht]
    exact State.sdaWire_of_input rfl _
  · rw [if_neg hfirst] at ht
    rw [ht]
    exact State.sdaWire_of_input (hinput hfirst) _

/-- Settles O48: the draws of each instruction, and the wire of an input. -/
theorem samplesAreTheEnvironmentsAndAreTakenAtTwoSteps :
    Obligations.SamplesAreTheEnvironmentsAndAreTakenAtTwoSteps := by
  unfold Obligations.SamplesAreTheEnvironmentsAndAreTakenAtTwoSteps
  intro i s t h
  obtain ⟨-, -, -, hdraws, htaken⟩ := exec_inputsKept h
  refine ⟨fun hcack hrbit => ?_, fun hi => ?_, fun hi hctx => ?_, fun hi hctx => ?_⟩
  · have hno : samplesSda i = false := by
      cases i with
      | cackSclLow => exact absurd rfl hcack
      | rbitSclHigh => exact absurd rfl hrbit
      | _ => rfl
    simpa [hno] using And.intro hdraws htaken
  · have hyes : samplesSda i = true := by
      obtain rfl | rfl := hi <;> rfl
    simpa [hyes] using And.intro hdraws htaken
  · subst hi
    rw [exec_cackSclLow_acknowledgeBit h]
    exact State.sdaWire_of_input (by simp_all [stepContext, State.sdaListens]) _
  · subst hi
    refine exec_rbitSclHigh_sampledBit h fun hlater => ?_
    simp_all [stepContext, State.sdaListens]

/-! ## The frames of the steps -/

/-- An unchanged buffer space reads the same at every address. -/
theorem State.byteAt_of_buf {s t : State} (h : t.buf = s.buf) (a : Nat) : t.byteAt a = s.byteAt a := by
  rw [State.byteAt, h, State.byteAt]

/-- Settles O51, step by step. -/
theorem lineStepsLeaveTheRest : Obligations.LineStepsLeaveTheRest := by
  unfold Obligations.LineStepsLeaveTheRest
  intro i s t hi h
  have hbuf : t.buf = s.buf :=
    exec_buf_of_ne h (by rintro rfl; revert hi; decide) (by rintro rfl; revert hi; decide)
  refine ⟨?_, State.byteAt_of_buf hbuf⟩
  cases i with
  | startSdaLow | startSclLow | restartSdaHigh | restartSclHigh | stopSdaLow | stopSclHigh
  | wbitSclHigh | cackSclHigh | sackSclHigh =>
    cases h
    rfl
  | wbitSda =>
    cases h
    cases s.currentBit <;> rfl
  | sackSda =>
    cases h
    cases (s.sdaSetDirection .outputOpenDrain).moreToRead <;> rfl
  | _ => simp at hi

/-- Settles O52, step by step. -/
theorem shiftStepsLeaveTheRest : Obligations.ShiftStepsLeaveTheRest := by
  unfold Obligations.ShiftStepsLeaveTheRest
  intro i s t hi h
  have hbyte := State.byteAt_of_buf
    (exec_buf_of_ne h (by rintro rfl; revert hi; decide) (by rintro rfl; revert hi; decide))
  cases i with
  | wbitSclLow | rbitSclLow =>
    cases h
    rw [State.afterBit_eq] at hbyte ⊢
    exact ⟨rfl, by simp, by simp, by simp, hbyte⟩
  | rbitSclHigh =>
    obtain ⟨u, level, rfl | rfl, rfl⟩ := execRbitSclHigh_cases h <;>
      exact ⟨rfl, by simp, by simp, by simp, hbyte⟩
  | _ => simp at hi

/-- Settles O53: FinishAck's frame with the calls of its two callers, and STOP_SDA_HIGH. -/
theorem finishingStepsLeaveTheRest : Obligations.FinishingStepsLeaveTheRest := by
  unfold Obligations.FinishingStepsLeaveTheRest
  intro i s t hi h
  have hother (a : Nat) (ha : s.payloadAddress = .next a) (other : Nat) (hne : other ≠ a) :
      t.byteAt other = s.byteAt other := exec_byteAt_other h ha hne
  have hkept (hnone : i = .stopSdaHigh ∨ s.writingAddress = true ∨ s.lastOperationWasWrite = true) :
      ∀ a, t.byteAt a = s.byteAt a :=
    State.byteAt_of_buf (exec_buf_kept h fun hack =>
      State.not_holdsReceivedByte_iff.mpr (hnone.resolve_left (by rintro rfl; simp at hack)))
  cases i with
  | cackSclLow =>
    obtain ⟨u, v, -, rfl, hc, hd⟩ := execCackSclLow_cases h
    obtain ⟨hwidths, hframe, hdirection, haddress, hcfgFrame, hfaults, hmoves, hsampled, hscl, hsda, hdata,
      hsize, -⟩ := State.finishAck_frame hc hd
    exact ⟨hwidths, hframe, hdirection, haddress, hcfgFrame, hfaults, hmoves, hsampled,
      (congrArg Line.dir hscl :), (congrArg Line.latch hsda :), fun _ => ⟨hdata, hsize⟩, hkept, hother, by simp,
      by simp⟩
  | sackSclLow =>
    obtain ⟨u, hc, hd⟩ := State.finishAck_cases h
    obtain ⟨hwidths, hframe, hdirection, haddress, hcfgFrame, hfaults, hmoves, hsampled, hscl, hsda, hdata,
      hsize, hbit, hdraws, htaken, herror, -⟩ := State.finishAck_frame hc hd
    have herror : t.acknowledgeError = s.acknowledgeError := by simpa [State.nacked] using herror
    exact ⟨hwidths, hframe, hdirection, haddress, hcfgFrame, hfaults, hmoves, hsampled,
      (congrArg Line.dir hscl :), (congrArg Line.latch hsda :), fun _ => ⟨hdata, hsize⟩, hkept, hother,
      fun _ => ⟨(congrArg Line.dir hsda :), hbit, herror, hdraws, htaken⟩, by simp⟩
  | stopSdaHigh =>
    obtain ⟨hrun, -⟩ := stopSdaHighReleasesSdaAndReports s
    cases hrun.symm.trans h
    exact ⟨rfl, rfl, rfl, rfl, rfl, rfl, rfl, rfl, rfl, rfl, by simp, hkept, hother,
      fun _ => ⟨rfl, rfl, rfl, rfl, rfl⟩, fun _ => ⟨rfl, rfl, rfl, rfl, rfl⟩⟩
  | _ => simp at hi

/-! ## The frame of the commands -/

/-- InitBus emits nothing (R200). -/
theorem State.initBus_signalLog (s : State) : s.initBus.signalLog = s.signalLog := by
  rw [State.initBus_eq]

/-- WRITE and READ write no line, no signal and no configuration register (R194, R195). -/
theorem exec_transfer_frame {i : Instr} {s t : State} (h : exec i s = .next t)
    (hi : (∃ b n, i = .write b n) ∨ (∃ b n, i = .read b n)) :
    t.sda = s.sda ∧ t.scl = s.scl ∧ t.sampledBit = s.sampledBit ∧ t.signalLog = s.signalLog ∧
      t.cfgAddress = s.cfgAddress ∧ t.cfgFrame = s.cfgFrame := by
  obtain ⟨b, n, rfl⟩ | ⟨b, n, rfl⟩ := hi
  · obtain ⟨-, -, ab, st, wa, rfl, -⟩ := execWrite_cases h
    exact ⟨rfl, rfl, rfl, rfl, rfl, rfl⟩
  · obtain ⟨-, -, ab, st, wa, rfl, -⟩ := execRead_cases h
    exact ⟨rfl, rfl, rfl, rfl, rfl, rfl⟩

/-- Settles O54: what every instruction keeps, and each command's own frame. -/
theorem commandsLeaveTheRest : Obligations.CommandsLeaveTheRest := by
  unfold Obligations.CommandsLeaveTheRest
  intro i s t hcommand h
  obtain ⟨hwidths, hfaults, hmoves, hdraws, htaken⟩ := exec_inputsKept h
  have hno : samplesSda i = false := by
    cases i with
    | cackSclLow | rbitSclHigh => cases hcommand
    | _ => rfl
  rw [hno] at hdraws htaken
  have hbuf : t.buf = s.buf :=
    exec_buf_of_ne h (by rintro rfl; cases hcommand) (by rintro rfl; cases hcommand)
  obtain ⟨haddress, hframe, -⟩ := configurationIsWrittenByItsCommandAlone.1 i s t h
  refine ⟨hwidths, hfaults, hmoves, hdraws, htaken, State.byteAt_of_buf hbuf, exec_transfer_frame h,
    fun a hi => ?_, fun f hi => ?_, fun hi => ?_, fun hi => ⟨haddress ?_, hframe ?_⟩⟩
  · subst hi
    obtain ⟨-, rfl⟩ := execSetAddress_cases h
    rfl
  · subst hi
    obtain ⟨-, rfl⟩ := execSetFrame_cases h
    rfl
  · subst hi
    cases h
    exact s.initBus_signalLog
  · rintro a rfl
    simp at hi
  · rintro f rfl
    simp at hi

/-! ## The logs (R43, R121) -/

/-- Every instruction that answers appends at most one signal (R121). -/
theorem exec_signalLog {i : Instr} {s t : State} (h : exec i s = .next t) :
    ∃ sigs, t.signalLog = s.signalLog ++ sigs ∧ sigs.length ≤ 1 := by
  have hnone (heq : t.signalLog = s.signalLog) : ∃ sigs, t.signalLog = s.signalLog ++ sigs ∧
      sigs.length ≤ 1 := ⟨[], by simp [heq], by simp⟩
  cases i with
  | init =>
    cases h
    exact hnone s.initBus_signalLog
  | setAddress =>
    obtain ⟨-, rfl⟩ := execSetAddress_cases h
    exact hnone rfl
  | setFrame =>
    obtain ⟨-, rfl⟩ := execSetFrame_cases h
    exact hnone rfl
  | write =>
    obtain ⟨-, -, -, hsignals, -⟩ := exec_transfer_frame h (.inl ⟨_, _, rfl⟩)
    exact hnone hsignals
  | read =>
    obtain ⟨-, -, -, hsignals, -⟩ := exec_transfer_frame h (.inr ⟨_, _, rfl⟩)
    exact hnone hsignals
  | stopWrite | stopRead =>
    cases h
    split
    · rw [State.deinitBus_initBus_emit]
      exact ⟨[_], rfl, le_rfl⟩
    · exact ⟨[_], rfl, le_rfl⟩
  | setFrequency | idle =>
    cases h
    exact hnone rfl
  | _ =>
    obtain ⟨calls, -, ⟨-, -, -, hsignals⟩ | ⟨-, -, -, hsignals⟩⟩ := exec_stepEnd h rfl (by simp)
    · exact hnone hsignals
    · exact hsignals

/-- Settles O40: each instruction appends its calls and its signal, and a store and the wait append none. -/
theorem logsOnlyGrow : Obligations.LogsOnlyGrow := by
  unfold Obligations.LogsOnlyGrow
  refine ⟨fun s t h => ?_, rfl, rfl⟩
  obtain ⟨n, c, ms, i, -, -, hexec⟩ | ⟨i, -, -, -, hexec⟩ | ⟨-, -, -, rfl⟩ | ⟨n, addr, v, ms, -, -, -, rfl⟩ :=
    step_cases h
  · obtain ⟨-, -, calls, hcalls, -⟩ := exec_linesLawful hexec
    exact ⟨⟨calls, hcalls⟩, (exec_signalLog hexec :)⟩
  · obtain ⟨-, -, calls, hcalls, -⟩ := exec_linesLawful hexec
    exact ⟨⟨calls, hcalls⟩, (exec_signalLog hexec :)⟩
  · exact ⟨⟨[], by simp⟩, [], by simp, by simp⟩
  · exact ⟨⟨[], by simp⟩, [], by simp, by simp⟩

/-! ## The marks (R42) -/

/-- The outcomes that add no mark: an answer, or a fault of the model's own (log entry 12). -/
def addsNoMark {α : Type} : Host.Outcome α Fault Refusal → Bool
  | .next _ => true
  | .fault (.raised _ _) => false
  | .fault _ => true
  | .refused _ => false

/-- A sequence adds no mark where its parts add none. -/
theorem addsNoMark_andThen {α β : Type} {o : Host.Outcome α Fault Refusal}
    {k : α → Host.Outcome β Fault Refusal} (ho : addsNoMark o = true) (hk : ∀ a, addsNoMark (k a) = true) :
    addsNoMark (andThen o k) = true := by
  cases o with
  | next a => exact hk a
  | fault f => cases f <;> first | rfl | cases ho
  | refused r => cases ho

section
variable (s : State)

theorem State.payloadAddress_addsNoMark : addsNoMark s.payloadAddress = true := by
  unfold State.payloadAddress
  split <;> rfl

theorem State.beginWriteByte_addsNoMark : addsNoMark s.beginWriteByte = true := by
  refine addsNoMark_andThen s.payloadAddress_addsNoMark fun addr => addsNoMark_andThen ?_ fun v => rfl
  unfold State.memRead
  split <;> rfl

theorem State.storeReceived_addsNoMark : addsNoMark s.storeReceived = true := by
  refine addsNoMark_andThen s.payloadAddress_addsNoMark fun addr => ?_
  unfold State.memWrite
  split <;> rfl

theorem State.sdaSample_addsNoMark : addsNoMark s.sdaSample = true := by
  unfold State.sdaSample
  split <;> rfl

/-- FinishAck adds no mark (R176, R177). -/
theorem State.finishAck_addsNoMark (kind : AckKind) : addsNoMark (s.finishAck kind) = true := by
  refine addsNoMark_andThen ?_ fun t => ?_
  · unfold State.finishAckConsume
    split_ifs
    · rfl
    · rfl
    · exact addsNoMark_andThen s.storeReceived_addsNoMark fun t => rfl
  · unfold State.finishAckDispatch
    split_ifs
    · rfl
    · exact addsNoMark_andThen t.beginWriteByte_addsNoMark fun u => rfl
    · rfl
    · rfl

end

/-- No step and no command but the four that need an idle engine adds a mark (R233). -/
theorem exec_addsNoMark {i : Instr} (s : State) (hi : needsIdle i = false) : addsNoMark (exec i s) = true := by
  cases i with
  | setAddress | setFrame | write | read => cases hi
  | cackSclLow => exact addsNoMark_andThen s.sdaSample_addsNoMark fun _ => State.finishAck_addsNoMark _ _
  | sackSclLow => exact State.finishAck_addsNoMark _ _
  | rbitSclHigh => exact addsNoMark_andThen (State.sdaSample_addsNoMark _) fun _ => rfl
  | _ => rfl

/-- An instruction adds no mark, or raises a fault of the spec's on the state it runs on (R42, R233). -/
theorem exec_addsNoMark_or_raises (i : Instr) (s : State) :
    addsNoMark (exec i s) = true ∨ ∃ r, exec i s = .fault (s.raise r) := by
  cases i with
  | setAddress | setFrame =>
    by_cases hidle : s.step = 0x00
    · exact .inl (by simp [exec, execSetAddress, execSetFrame, State.busy_eq_false_iff.mpr hidle, addsNoMark])
    · exact .inr ⟨_, exec_of_busy rfl hidle⟩
  | write base size =>
    simp only [exec, execWrite]
    split_ifs
    · exact .inr ⟨_, rfl⟩
    · exact .inr ⟨_, rfl⟩
    · exact .inl rfl
    · exact .inl (addsNoMark_andThen (State.beginWriteByte_addsNoMark _) fun _ => rfl)
  | read base size =>
    simp only [exec, execRead]
    split_ifs
    · exact .inr ⟨_, rfl⟩
    · exact .inr ⟨_, rfl⟩
    · exact .inl rfl
    · exact .inl rfl
    · exact .inl rfl
  | _ => exact .inl (exec_addsNoMark s rfl)

/-- A fault of the spec's marks its reason and changes nothing else, whoever raises it: a command, or a fire
at a code that names no step to run (R42, R233). -/
theorem step_raised {s t : State} {r : FaultReason} (h : step s = .fault (.raised r t)) :
    State.MarkedBy { s with hostMoves := t.hostMoves } t (.fault r) := by
  have htransition := step_transition s
  generalize step s = o at h htransition
  cases htransition with
  | @command m ms c i hmoves hdecode =>
    obtain hno | ⟨r', hraise⟩ := exec_addsNoMark_or_raises i { s with hostMoves := ms }
    · rw [h] at hno
      cases hno
    · cases hraise.symm.trans h
      exact State.markedBy_mark { s with hostMoves := ms } _
  | @fire i harmed hstep hne =>
    have hidle : needsIdle i = false := by
      obtain ⟨-, hisStep⟩ := stepOfCode_some hstep
      cases i <;> first | rfl | cases hisStep
    have hno := exec_addsNoMark { s with timerArmed := false, hostMoves := fireCounted s.hostMoves } hidle
    rw [h] at hno
    cases hno
  | unreachable =>
    cases h
    exact State.markedBy_mark { s with hostMoves := fireCounted s.hostMoves } _
  | _ => cases h

/-- A refusal of the port's marks its reason and changes nothing else (R42, R234). -/
theorem step_refused {s t : State} {r : RefusalReason} (h : step s = .refused (.port r t)) :
    State.MarkedBy { s with hostMoves := t.hostMoves } t (.refusal r) := by
  have hexec {i : Instr} {u : State} : exec i u ≠ .refused (.port r t) := by
    intro hrefused
    obtain hno | ⟨r', hraise⟩ := exec_addsNoMark_or_raises i u
    · rw [hrefused] at hno
      cases hno
    · cases hraise.symm.trans hrefused
  have htransition := step_transition s
  generalize step s = o at h htransition
  cases htransition with
  | command => exact absurd h hexec
  | fire => exact absurd h hexec
  | @refused m ms =>
    cases h
    exact State.markedBy_mark { s with hostMoves := ms } _
  | _ => cases h

/-- Settles O39: an answer keeps the marks, and a stop of the spec's adds its own. -/
theorem marksAreStickyAndNothingElseChanges : Obligations.MarksAreStickyAndNothingElseChanges := by
  unfold Obligations.MarksAreStickyAndNothingElseChanges
  refine ⟨fun s t h => (step_widths_faults h).right, fun s t r h => step_raised h,
    fun s t r h => step_refused h, fun s => ?_, rfl, fun s hmarked => ?_⟩
  · rw [State.hardReset_eq]
  · simp [State.endsWell, hmarked]

end Sys2Proof.Machine

/-! PROOFS for spec/10_state.md section 7: the invariant holds at reset and every transition keeps it (R40, R41,
R68, R117), and in a state that has it only the host's own moves stop the machine (R233, R234). -/

namespace Sys2Proof.Machine

/-! ## The invariant in its parts -/

/-- What the invariant says of a state whatever its step register holds: the widths, the buffer space, the
cursor and SCL's direction. -/
structure State.Sound (s : State) : Prop where
  widths : s.widths.wf
  buf : Memory.wf s.widths.aw s.buf = true
  cursor : s.cursorOk = true
  scl : s.scl.dir = .outputOpenDrain

/-- The invariant is soundness, `timerArmed == busy`, and the context of the step register's step. -/
theorem State.inv_iff {s : State} :
    s.Inv ↔ s.Sound ∧ s.timerArmed = s.busy ∧ s.contextOk = true :=
  ⟨fun ⟨hwidths, hbuf, hcursor, htimer, hscl, hctx⟩ => ⟨⟨hwidths, hbuf, hcursor, hscl⟩, htimer, hctx⟩,
    fun ⟨⟨hwidths, hbuf, hcursor, hscl⟩, htimer, hctx⟩ => ⟨hwidths, hbuf, hcursor, htimer, hscl, hctx⟩⟩

section
variable {s : State} {i : Instr}

/-- The cursor and the buffer (R25, R41(d), R68). -/
theorem State.cursorOk_iff : s.cursorOk = true ↔
    s.dataIndex ≤ s.dataSize ∧ s.dataSize < 2 ^ s.widths.sw ∧ (s.data = none → s.dataSize = 0) ∧
      ∀ d, s.data = some d → d + s.dataSize ≤ 2 ^ s.widths.aw := by
  cases hdata : s.data <;> simp [State.cursorOk, hdata, and_assoc]

/-- Where a byte is pending, `BUF` has it (R41(d), R68). -/
theorem State.exists_payload (hcursor : s.cursorOk = true) (hpending : s.dataIndex < s.dataSize) :
    ∃ d, s.data = some d ∧ d + s.dataIndex < 2 ^ s.widths.aw := by
  obtain ⟨-, -, hnone, hsome⟩ := State.cursorOk_iff.mp hcursor
  cases hdata : s.data with
  | none => exact absurd (hnone hdata) (by omega)
  | some d =>
    have := hsome d hdata
    exact ⟨d, rfl, by omega⟩

/-- The byte on the line is transmitted (R179). -/
theorem State.transmits_iff : s.transmits = true ↔ s.acknowledgeError = false ∧
    (s.addressPhase = true ∨
      s.writingAddress = false ∧ s.lastOperationWasWrite = true ∧ s.dataIndex < s.dataSize) := by
  simp [State.transmits, State.bytesPending, and_assoc]

/-- The byte on the line is received (R179). -/
theorem State.receives_iff : s.receives = true ↔ s.acknowledgeError = false ∧
    s.writingAddress = false ∧ s.lastOperationWasWrite = false ∧ s.dataIndex < s.dataSize := by
  simp [State.receives, State.bytesPending, and_assoc]

/-- A transmitted byte is no received one. -/
theorem State.transmits_sent (h : s.transmits = true) :
    s.writingAddress = true ∨ s.lastOperationWasWrite = true := by
  obtain ⟨-, haddr | ⟨-, hwrite, -⟩⟩ := State.transmits_iff.mp h
  · simp only [State.addressPhase, Bool.and_eq_true] at haddr
    exact .inl haddr.1.1
  · exact .inr hwrite

/-- The context of the step that the step register names holds (R89). -/
theorem State.contextOk_of_step (h : stepOfCode s.step = some i) : s.contextOk = stepContext i s := by
  rw [State.contextOk, h]

/-- An idle engine has IDLE's context: SDA drives, and SCL is low only for a held transfer (R41(b)). -/
theorem State.idle_context (hidle : s.step = 0x00) (hctx : s.contextOk = true) :
    s.writingAddress = false ∧ s.sda.dir = .outputOpenDrain ∧
      (s.scl.latch = true ∨ endsWithStop s.lastFrame = false) := by
  rw [State.contextOk_of_step (i := .idle) (by rw [hidle]; rfl)] at hctx
  simpa [stepContext, State.sdaDrives, and_assoc] using hctx

/-- IDLE's context, for the states that reach it. -/
theorem State.inv_of_idle (hs : s.Sound) (hidle : s.step = 0x00) (htimer : s.timerArmed = false)
    (haddr : s.writingAddress = false) (hsda : s.sda.dir = .outputOpenDrain)
    (hscl : s.scl.latch = true ∨ endsWithStop s.lastFrame = false) : s.Inv := by
  refine State.inv_iff.mpr ⟨hs, by rw [htimer, State.busy_eq_false_iff.mpr hidle], ?_⟩
  rw [State.contextOk_of_step (i := .idle) (by rw [hidle]; rfl)]
  simpa [stepContext, State.sdaDrives, haddr, hsda] using hscl

/-- A step with a successor keeps the invariant where the successor's context holds before its `goto`
(R113). -/
theorem State.inv_of_goto {code : StepCode} (hs : s.Sound) (hcode : stepOfCode code = some i)
    (hne : code ≠ 0x00) (hctx : stepContext i s = true) : (s.goto code).Inv := by
  refine State.inv_iff.mpr ⟨⟨hs.widths, hs.buf, hs.cursor, hs.scl⟩, (State.busy_iff.mpr hne).symm, ?_⟩
  rw [State.contextOk_of_step hcode, ← hctx]
  cases i <;> rfl

/-! ## The line calls keep soundness -/

theorem State.Sound.sdaSet (hs : s.Sound) : s.sdaSet.Sound := ⟨hs.widths, hs.buf, hs.cursor, hs.scl⟩

theorem State.Sound.sdaReset (hs : s.Sound) : s.sdaReset.Sound := ⟨hs.widths, hs.buf, hs.cursor, hs.scl⟩

theorem State.Sound.sclSet (hs : s.Sound) : s.sclSet.Sound := ⟨hs.widths, hs.buf, hs.cursor, hs.scl⟩

theorem State.Sound.sclReset (hs : s.Sound) : s.sclReset.Sound := ⟨hs.widths, hs.buf, hs.cursor, hs.scl⟩

theorem State.Sound.sdaSetDirection (hs : s.Sound) (d : Direction) : (s.sdaSetDirection d).Sound :=
  ⟨hs.widths, hs.buf, hs.cursor, hs.scl⟩

end

/-! ## FinishAck (R176, R177) -/

/-- What holds between FinishAck's two parts: the byte is consumed, and both lines stand as a check- or
set-acknowledge leaves them. -/
structure State.Consumed (s : State) : Prop where
  sound : s.Sound
  timerArmed : s.timerArmed = false
  writingAddress : s.writingAddress = false
  acknowledgeError : s.acknowledgeError = false
  sda : s.sda.dir = .outputOpenDrain
  scl : s.scl.latch = false

section
variable {s t : State}

/-- FinishAck's second part ends in a state with the invariant (R177). -/
theorem State.Consumed.dispatch_inv {k : AckKind} (hs : s.Consumed)
    (h : s.finishAckDispatch k = .next t) : t.Inv := by
  obtain ⟨hsound, htimer, haddr, herror, hsda, hscl⟩ := hs
  have ⟨hwidths, hbuf, hcursor, hdir⟩ := hsound
  obtain ⟨-, rfl⟩ | ⟨-, hpending, hwrite, d, -, -, rfl⟩ | ⟨-, hpending, hread, rfl⟩ | ⟨-, -, hstop, rfl⟩ |
    ⟨-, -, hhold, rfl⟩ := State.finishAckDispatch_cases h
  · refine State.inv_of_goto (i := .stopSdaLow) ⟨hwidths, hbuf, hcursor, hdir⟩ rfl (by decide) ?_
    simp [stepContext, State.stops, State.sdaDrives, haddr, hsda, hscl]
  · refine State.inv_of_goto (s := { s with activeByte := _, bitIndex := 7 }) (i := .wbitSda)
      ⟨hwidths, hbuf, hcursor, hdir⟩ rfl (by decide) ?_
    simp [stepContext, State.transmits, State.bytesPending, State.sdaDrives, haddr, herror, hsda, hwrite,
      hpending]
  · refine State.inv_of_goto (s := { s with activeByte := 0, bitIndex := 7 }) (i := .rbitSclHigh)
      ⟨hwidths, hbuf, hcursor, hdir⟩ rfl (by decide) ?_
    simp [stepContext, State.receives, State.bytesPending, State.sdaDrives, haddr, herror, hsda, hread,
      hpending]
  · refine State.inv_of_goto (i := .stopSdaLow) hsound rfl (by decide) ?_
    simp [stepContext, State.stops, State.sdaDrives, haddr, hsda, hscl, hstop]
  · exact State.inv_of_idle ⟨hwidths, hbuf, hcursor, hdir⟩ rfl htimer haddr hsda (.inr hhold)

/-- FinishAck's second part always answers (R41(d), R68). -/
theorem State.Consumed.dispatch_answers (hs : s.Consumed) (k : AckKind) :
    ∃ t, s.finishAckDispatch k = .next t := by
  cases hnack : s.nacked k with
  | true => exact ⟨_, State.finishAckDispatch_nack hnack⟩
  | false =>
    obtain hpending | hdone := lt_or_ge s.dataIndex s.dataSize
    · cases hdirection : s.lastOperationWasWrite with
      | true =>
        obtain ⟨d, hdata, hlt⟩ := State.exists_payload hs.sound.cursor hpending
        exact ⟨_, State.finishAckDispatch_send hnack hpending hdirection hdata hlt⟩
      | false => exact ⟨_, State.finishAckDispatch_receive hnack hpending hdirection⟩
    · cases hframe : endsWithStop s.lastFrame with
      | true => exact ⟨_, State.finishAckDispatch_stop hnack hdone hframe⟩
      | false => exact ⟨_, State.finishAckDispatch_hold hnack hdone hframe⟩

/-- The byte after a check-acknowledge is consumed: an address byte, or a payload byte of a write (R176). -/
theorem State.consumed_ackSampled (hs : s.Sound) (htimer : s.timerArmed = false)
    (hsent : s.transmits = true) (level : Bool) : (ackSampled s level).Consumed := by
  obtain ⟨herror, hbyte⟩ := State.transmits_iff.mp hsent
  obtain ⟨hwidths, hbuf, hcursor, hscl⟩ := hs
  obtain ⟨hle, hsize, hdata⟩ := State.cursorOk_iff.mp hcursor
  refine ⟨⟨hwidths, hbuf, State.cursorOk_iff.mpr ⟨?_, hsize, hdata⟩, hscl⟩, htimer, rfl, herror, rfl, rfl⟩
  simp only [ackSampled]
  split
  · exact hle
  · next haddr =>
    obtain haddr' | ⟨-, -, hlt⟩ := hbyte
    · exact absurd haddr (by simp_all [State.addressPhase])
    · exact hlt

/-- The byte after a set-acknowledge is stored and counted (R176). -/
theorem State.consumed_received (hs : s.Sound) (htimer : s.timerArmed = false)
    (hgot : s.receives = true) (hdrives : s.sda.dir = .outputOpenDrain) {d : Nat}
    (hlt : d + s.dataIndex < 2 ^ s.widths.aw) : (received s d).Consumed := by
  obtain ⟨herror, haddr, -, hpending⟩ := State.receives_iff.mp hgot
  obtain ⟨hwidths, hbuf, hcursor, hscl⟩ := hs
  obtain ⟨-, hsize, hdata⟩ := State.cursorOk_iff.mp hcursor
  exact ⟨⟨hwidths, Memory.write_wf _ _ _ hbuf hlt, State.cursorOk_iff.mpr ⟨hpending, hsize, hdata⟩, hscl⟩,
    htimer, haddr, herror, hdrives, rfl⟩

end

/-! ## The steps -/

section
variable {s t : State} {i : Instr}

/-- CACK_SCL_LOW in its context samples an input and hands over to FinishAck's second part (R172, R176). -/
theorem State.Sound.exec_cackSclLow (hs : s.Sound) (htimer : s.timerArmed = false)
    (hctx : stepContext .cackSclLow s = true) :
    ∃ u : State, u.Consumed ∧ exec .cackSclLow s = u.finishAckDispatch .check := by
  simp only [stepContext, State.sdaListens, Bool.and_eq_true, decide_eq_true_eq] at hctx
  obtain ⟨⟨hsent, hinput⟩, -⟩ := hctx
  exact ⟨_, State.consumed_ackSampled hs htimer hsent _,
    exec_cackSclLow_of_dir (by simp [hinput]) (State.transmits_sent hsent)⟩

/-- SACK_SCL_LOW in its context stores the byte in `BUF` and hands over to FinishAck's second part (R175,
R176). -/
theorem State.Sound.exec_sackSclLow (hs : s.Sound) (htimer : s.timerArmed = false)
    (hctx : stepContext .sackSclLow s = true) :
    ∃ u : State, u.Consumed ∧ exec .sackSclLow s = u.finishAckDispatch .set := by
  simp only [stepContext, State.sdaDrives, Bool.and_eq_true, decide_eq_true_eq] at hctx
  obtain ⟨⟨hgot, hdrives⟩, -⟩ := hctx
  obtain ⟨-, haddr, hread, hpending⟩ := State.receives_iff.mp hgot
  obtain ⟨d, hdata, hlt⟩ := State.exists_payload hs.cursor hpending
  exact ⟨_, State.consumed_received hs htimer hgot hdrives hlt,
    exec_sackSclLow_of_data ⟨haddr, hread⟩ hdata hlt⟩

/-- Every step answers in its context. -/
theorem State.Sound.exec_answers (hs : s.Sound) (htimer : s.timerArmed = false)
    (hctx : stepContext i s = true) : ∃ t, exec i s = .next t := by
  cases i with
  | cackSclLow =>
    obtain ⟨u, hu, hexec⟩ := hs.exec_cackSclLow htimer hctx
    rw [hexec]
    exact hu.dispatch_answers .check
  | sackSclLow =>
    obtain ⟨u, hu, hexec⟩ := hs.exec_sackSclLow htimer hctx
    rw [hexec]
    exact hu.dispatch_answers .set
  | rbitSclHigh =>
    refine ⟨_, execRbitSclHigh_of_dir rfl ?_⟩
    split
    · simp
    · simp_all [stepContext, State.sdaListens]
  | init | setAddress | setFrame | write | read | stopWrite | stopRead | setFrequency => cases hctx
  | _ => exact ⟨_, rfl⟩

/-- Only the count down from bit 0 gives the 7 of a new byte (decision D14). -/
theorem bitIndex_countDown_ne : ∀ {n : BitVec 3}, n ≠ 0 → n - 1 ≠ 7 := by
  decide

/-- Every step keeps the invariant: its context, with what the step does to the lines and the count, is its
successor's (R119). -/
theorem State.Sound.exec_step_inv (hs : s.Sound) (htimer : s.timerArmed = false)
    (hctx : stepContext i s = true) (hne : i ≠ .idle) (h : exec i s = .next t) : t.Inv := by
  cases i with
  | idle => exact absurd rfl hne
  | init | setAddress | setFrame | write | read | stopWrite | stopRead | setFrequency => cases hctx
  | startSdaLow =>
    cases h
    exact State.inv_of_goto (i := .startSclLow) hs.sdaReset rfl (by decide) hctx
  | startSclLow =>
    cases h
    have hnext : (s.transmits && s.sdaDrives) = true := by simp_all [stepContext, State.transmits]
    exact State.inv_of_goto (i := .wbitSda) hs.sclReset rfl (by decide) hnext
  | restartSdaHigh =>
    cases h
    exact State.inv_of_goto (i := .restartSclHigh) hs.sdaSet rfl (by decide) hctx
  | restartSclHigh =>
    cases h
    have hnext : stepContext .startSdaLow s = true := by simp_all [stepContext]
    exact State.inv_of_goto (i := .startSdaLow) hs.sclSet rfl (by decide) hnext
  | wbitSda =>
    cases h
    split
    · exact State.inv_of_goto (i := .wbitSclHigh) hs.sdaSet rfl (by decide) hctx
    · exact State.inv_of_goto (i := .wbitSclHigh) hs.sdaReset rfl (by decide) hctx
  | wbitSclHigh =>
    cases h
    have hnext : (s.transmits && s.sdaDrives && true) = true := by simp_all [stepContext]
    exact State.inv_of_goto (i := .wbitSclLow) hs.sclSet rfl (by decide) hnext
  | wbitSclLow =>
    cases h
    rw [State.afterBit_eq]
    have hu : ({ s.sclReset with bitIndex := s.sclReset.bitIndex - 1 } : State).Sound :=
      ⟨hs.widths, hs.buf, hs.cursor, hs.scl⟩
    split
    · have hnext : (s.transmits && s.sdaDrives && !false) = true := by simp_all [stepContext]
      exact State.inv_of_goto (i := .cackSclHigh) hu rfl (by decide) hnext
    · have hnext : (s.transmits && s.sdaDrives) = true := by simp_all [stepContext]
      exact State.inv_of_goto (i := .wbitSda) hu rfl (by decide) hnext
  | cackSclHigh =>
    cases h
    have hnext : (s.transmits && decide (Direction.input = .input) && true) = true := by
      simp_all [stepContext]
    exact State.inv_of_goto (i := .cackSclLow) (hs.sdaSetDirection .input).sclSet rfl (by decide) hnext
  | cackSclLow =>
    obtain ⟨u, hu, hexec⟩ := hs.exec_cackSclLow htimer hctx
    exact hu.dispatch_inv (hexec.symm.trans h)
  | rbitSclHigh =>
    have ht := execRbitSclHigh_spec h
    by_cases hfirst : s.bitIndex = 7
    · rw [if_pos hfirst] at ht
      have hnext : (s.receives && decide (Direction.input = .input) && true) = true := by
        simp_all [stepContext]
      rw [ht]
      exact State.inv_of_goto (i := .rbitSclLow) ⟨hs.widths, hs.buf, hs.cursor, hs.scl⟩ rfl (by decide) hnext
    · rw [if_neg hfirst] at ht
      have hnext : (s.receives && s.sdaListens && true) = true := by simp_all [stepContext]
      rw [ht]
      exact State.inv_of_goto (i := .rbitSclLow) ⟨hs.widths, hs.buf, hs.cursor, hs.scl⟩ rfl (by decide) hnext
  | rbitSclLow =>
    cases h
    rw [State.afterBit_eq]
    have hu : ({ s.sclReset with
        activeByte := s.accumulated, bitIndex := s.bitIndex - 1 } : State).Sound :=
      ⟨hs.widths, hs.buf, hs.cursor, hs.scl⟩
    split
    · have hnext : (s.receives && s.sdaListens && !false) = true := by simp_all [stepContext]
      exact State.inv_of_goto (i := .sackSda) hu rfl (by decide) hnext
    · next hmore =>
      have hcount : s.bitIndex - 1 ≠ 7 := bitIndex_countDown_ne hmore
      have hnext : (s.receives && if s.bitIndex - 1 = 7 then s.sdaDrives else s.sdaListens) = true := by
        simp_all [stepContext]
      exact State.inv_of_goto (i := .rbitSclHigh) hu rfl (by decide) hnext
  | sackSda =>
    cases h
    have hnext : (s.receives && decide (Direction.outputOpenDrain = .outputOpenDrain) && !s.scl.latch) = true := by
      simp_all [stepContext]
    have hu := hs.sdaSetDirection .outputOpenDrain
    split
    · exact State.inv_of_goto (i := .sackSclHigh) hu.sdaReset rfl (by decide) hnext
    · exact State.inv_of_goto (i := .sackSclHigh) hu.sdaSet rfl (by decide) hnext
  | sackSclHigh =>
    cases h
    have hnext : (s.receives && s.sdaDrives && true) = true := by simp_all [stepContext]
    exact State.inv_of_goto (i := .sackSclLow) hs.sclSet rfl (by decide) hnext
  | sackSclLow =>
    obtain ⟨u, hu, hexec⟩ := hs.exec_sackSclLow htimer hctx
    exact hu.dispatch_inv (hexec.symm.trans h)
  | stopSdaLow =>
    cases h
    have hnext : (s.stops && s.sdaDrives && !s.scl.latch && !false) = true := by simp_all [stepContext]
    exact State.inv_of_goto (i := .stopSclHigh) hs.sdaReset rfl (by decide) hnext
  | stopSclHigh =>
    cases h
    have hnext : (s.stops && s.sdaDrives && true && !s.sda.latch) = true := by simp_all [stepContext]
    exact State.inv_of_goto (i := .stopSdaHigh) hs.sclSet rfl (by decide) hnext
  | stopSdaHigh =>
    cases h
    obtain ⟨hwidths, hbuf, hcursor, hscl⟩ := hs
    obtain ⟨-, hsize, -⟩ := State.cursorOk_iff.mp hcursor
    simp only [stepContext, State.stops, State.sdaDrives, Bool.and_eq_true, Bool.not_eq_true',
      decide_eq_true_eq] at hctx
    obtain ⟨⟨⟨⟨haddr, -⟩, hsda⟩, hlatch⟩, -⟩ := hctx
    refine State.inv_of_idle ⟨hwidths, hbuf, ?_, hscl⟩ rfl htimer haddr hsda (.inl hlatch)
    exact State.cursorOk_iff.mpr ⟨le_rfl, Nat.two_pow_pos _, fun _ => rfl, by simp⟩

end

/-! ## The commands -/

section
variable {s t : State} {i : Instr} {base : BitVec 32} {size : Nat}

/-- What WRITE and READ acceptance leave is sound where the port has admitted the operands (R83, R194,
R195). -/
theorem State.Sound.recordCall (hs : s.Sound) (hsize : s.widths.sizeFits size)
    (hbuffer : s.widths.bufferFits base size) (isWrite : Bool) : (s.recordCall base size isWrite).Sound := by
  refine ⟨hs.widths, hs.buf, State.cursorOk_iff.mpr ⟨Nat.zero_le _, hsize, nofun, ?_⟩, hs.scl⟩
  intro d hdata
  cases hdata
  exact hbuffer

/-- InitBus leaves an idle state with the invariant (R200). -/
theorem State.initBus_inv (hwidths : s.widths.wf) (hbuf : Memory.wf s.widths.aw s.buf = true) :
    s.initBus.Inv := by
  rw [State.initBus_eq]
  exact State.inv_of_idle
    ⟨hwidths, hbuf, State.cursorOk_iff.mpr ⟨le_rfl, Nat.two_pow_pos _, fun _ => rfl, nofun⟩, rfl⟩
    rfl rfl rfl rfl (.inl rfl)

/-- WRITE begins its transfer in a state with the invariant (R194). -/
theorem State.Inv.exec_write (hinv : s.Inv) (hwf : Instr.wf s.widths (.write base size) = true)
    (h : exec (.write base size) s = .next t) : t.Inv := by
  obtain ⟨hs, -, hctx⟩ := State.inv_iff.mp hinv
  obtain ⟨hsize, hbuffer⟩ := (Instr.wf_transfer_iff (.inl rfl)).mp hwf
  obtain ⟨hidle, hnonempty, ab, st, wa, rfl, hcase⟩ := execWrite_cases h
  obtain ⟨-, hsda, -⟩ := State.idle_context (State.busy_eq_false_iff.mp hidle) hctx
  obtain ⟨hwidths, hbuf, hcursor, hscl⟩ := hs.recordCall hsize hbuffer true
  obtain ⟨-, rfl, rfl, rfl⟩ | ⟨hdirect, rfl, rfl, rfl⟩ := hcase
  · refine State.inv_of_goto (i := .startSdaLow) ⟨hwidths, hbuf, hcursor, hscl⟩ rfl (by decide) ?_
    simp [stepContext, State.addressPhase, State.recordCall, State.sdaDrives, hsda]
  · refine State.inv_of_goto (i := .wbitSda) ⟨hwidths, hbuf, hcursor, hscl⟩ rfl (by decide) ?_
    have hpending : 0 < size := Nat.pos_of_ne_zero (hnonempty.resolve_left (by simp [hdirect]))
    simp [stepContext, State.transmits, State.bytesPending, State.recordCall, State.sdaDrives, hsda, hpending]

/-- READ begins its transfer in a state with the invariant (R195). -/
theorem State.Inv.exec_read (hinv : s.Inv) (hwf : Instr.wf s.widths (.read base size) = true)
    (h : exec (.read base size) s = .next t) : t.Inv := by
  obtain ⟨hs, -, hctx⟩ := State.inv_iff.mp hinv
  obtain ⟨hsize, hbuffer⟩ := (Instr.wf_transfer_iff (.inr rfl)).mp hwf
  obtain ⟨hidle, hnonempty, ab, st, wa, rfl, hcase⟩ := execRead_cases h
  obtain ⟨-, hsda, -⟩ := State.idle_context (State.busy_eq_false_iff.mp hidle) hctx
  obtain ⟨hwidths, hbuf, hcursor, hscl⟩ := hs.recordCall hsize hbuffer false
  obtain ⟨rfl, rfl | rfl, rfl⟩ | ⟨hdirect, hnone, rfl, rfl, rfl⟩ := hcase
  · refine State.inv_of_goto (i := .startSdaLow) ⟨hwidths, hbuf, hcursor, hscl⟩ rfl (by decide) ?_
    simp [stepContext, State.addressPhase, State.recordCall, State.sdaDrives, hsda]
  · refine State.inv_of_goto (i := .restartSdaHigh) ⟨hwidths, hbuf, hcursor, hscl⟩ rfl (by decide) ?_
    simp [stepContext, State.addressPhase, State.recordCall, State.sdaDrives, hsda]
  · refine State.inv_of_goto (i := .rbitSclHigh) ⟨hwidths, hbuf, hcursor, hscl⟩ rfl (by decide) ?_
    have hpending : 0 < size := Nat.pos_of_ne_zero (by simpa [hdirect, hnone] using hnonempty)
    simp [stepContext, State.receives, State.bytesPending, State.recordCall, State.sdaDrives, hsda, hpending]

/-- Every admitted command keeps the invariant (R190). -/
theorem State.Inv.exec_command (hinv : s.Inv) (hcommand : i.isStep = false)
    (hwf : i.wf s.widths = true) (h : exec i s = .next t) : t.Inv := by
  obtain ⟨⟨hwidths, hbuf, hcursor, hscl⟩, htimer, hctx⟩ := State.inv_iff.mp hinv
  cases i with
  | init =>
    cases h
    exact State.initBus_inv hwidths hbuf
  | setAddress =>
    obtain ⟨hidle, rfl⟩ := execSetAddress_cases h
    have hstep := State.busy_eq_false_iff.mp hidle
    obtain ⟨haddr, hsda, hheld⟩ := State.idle_context hstep hctx
    exact State.inv_of_idle ⟨hwidths, hbuf, hcursor, hscl⟩ hstep (htimer.trans hidle) haddr hsda hheld
  | setFrame =>
    obtain ⟨hidle, rfl⟩ := execSetFrame_cases h
    have hstep := State.busy_eq_false_iff.mp hidle
    obtain ⟨haddr, hsda, hheld⟩ := State.idle_context hstep hctx
    exact State.inv_of_idle ⟨hwidths, hbuf, hcursor, hscl⟩ hstep (htimer.trans hidle) haddr hsda hheld
  | write => exact hinv.exec_write hwf h
  | read => exact hinv.exec_read hwf h
  | stopWrite | stopRead =>
    cases h
    split
    · exact (State.initBus_inv (s := s.deinitBus) hwidths hbuf :)
    · exact hinv
  | setFrequency =>
    cases h
    exact hinv
  | _ => cases hcommand

/-- A command stops only as the host's: it raises BUSY_COMMAND or EMPTY_DIRECT_TRANSFER (R233). -/
theorem stopIsTheHosts_exec_command (hcommand : i.isStep = false) (hwf : i.wf s.widths = true) :
    stopIsTheHosts (exec i s) = true := by
  cases i with
  | setAddress | setFrame =>
    obtain hidle | hbusy := eq_or_ne s.step 0x00
    · simp [exec_setAddress_of_idle, exec_setFrame_of_idle, hidle, stopIsTheHosts]
    · rw [exec_of_busy rfl hbusy]; rfl
  | write base size =>
    obtain ⟨-, hbuffer⟩ := (Instr.wf_transfer_iff (.inl rfl)).mp hwf
    obtain hidle | hbusy := eq_or_ne s.step 0x00
    · cases hframe : beginsWithStart s.cfgFrame with
      | true => rw [exec_write_of_start hidle hframe]; rfl
      | false =>
        obtain hempty | hsize := eq_or_ne size 0
        · rw [exec_write_of_emptyDirect hidle hframe hempty]; rfl
        · rw [exec_write_of_direct hidle hframe hsize (by omega)]; rfl
    · rw [exec_of_busy rfl hbusy]; rfl
  | read base size =>
    simp only [exec, execRead]
    split_ifs <;> rfl
  | init | stopWrite | stopRead | setFrequency => rfl
  | _ => cases hcommand

end

/-! ## The transitions -/

section
variable {s t : State}

/-- The step that a fire runs is in its context, on a sound state with the timer disarmed (R112). -/
theorem State.Inv.fire {i : Instr} (hinv : s.Inv) (hstep : stepOfCode s.step = some i) (ms : List HostMove) :
    ({ s with timerArmed := false, hostMoves := ms } : State).Sound ∧
      stepContext i { s with timerArmed := false, hostMoves := ms } = true := by
  obtain ⟨hs, -, hctx⟩ := State.inv_iff.mp hinv
  refine ⟨⟨hs.widths, hs.buf, hs.cursor, hs.scl⟩, ?_⟩
  rw [State.contextOk_of_step hstep] at hctx
  rw [← hctx]
  cases i <;> rfl

end

/-! ## The statements -/

/-- Settles O57: an admitted command, a fire, a store and the wait each keep the invariant. -/
theorem everyStepKeepsTheInvariant : Obligations.EveryStepKeepsTheInvariant := by
  unfold Obligations.EveryStepKeepsTheInvariant
  intro s t hinv h
  obtain ⟨n, c, ms, i, -, hdecode, hexec⟩ | ⟨i, -, hstep, hne, hexec⟩ | ⟨-, -, -, rfl⟩ |
    ⟨n, addr, v, ms, -, haddr, -, rfl⟩ := step_cases h
  · obtain ⟨-, hwf⟩ := encode_of_decodeCommand hdecode
    exact State.Inv.exec_command (s := { s with hostMoves := ms }) hinv (decodeCommand_isStep hdecode) hwf
      hexec
  · obtain ⟨hs, hctx⟩ := hinv.fire hstep (fireCounted s.hostMoves)
    exact hs.exec_step_inv rfl hctx hne hexec
  · exact hinv
  · obtain ⟨hwidths, hbuf, hrest⟩ := hinv
    exact ⟨hwidths, Memory.write_wf _ _ _ hbuf haddr, hrest⟩

/-- Settles O58: a fire answers, and the faults of the engine's own have no state with the invariant. -/
theorem onlyTheHostCanStopTheMachine : Obligations.OnlyTheHostCanStopTheMachine := by
  unfold Obligations.OnlyTheHostCanStopTheMachine
  intro s hinv
  have htransition := step_transition s
  generalize step s = o at htransition
  cases htransition with
  | command hmoves hdecode =>
    obtain ⟨-, hwf⟩ := encode_of_decodeCommand hdecode
    exact stopIsTheHosts_exec_command (decodeCommand_isStep hdecode) hwf
  | refused | notATriple | stored | noHostMove | wait => rfl
  | fire harmed hstep hne =>
    obtain ⟨hs, hctx⟩ := hinv.fire hstep (fireCounted s.hostMoves)
    obtain ⟨t, hexec⟩ := hs.exec_answers rfl hctx
    rw [hexec]
    rfl
  | unreachable harmed hstep =>
    obtain ⟨-, -, -, htimer, -, hctx⟩ := hinv
    have hbusy : s.step ≠ 0x00 := State.busy_iff.mp (htimer.symm.trans harmed)
    have hnone := (stepOfCode_eq_none_iff _).mpr (hstep.resolve_left hbusy)
    rw [State.contextOk, hnone] at hctx
    cases hctx
  | stuck hdisarmed hbusy =>
    obtain ⟨-, -, -, htimer, -⟩ := hinv
    cases hdisarmed.symm.trans (htimer.trans hbusy)

/-- Settles O56, by evaluating the invariant on the reset table's values. -/
theorem resetHasTheInvariant : Obligations.ResetHasTheInvariant := by
  unfold Obligations.ResetHasTheInvariant
  decide

/-- Settles O1, by evaluating the reset state. -/
theorem resetHoldsTheValuesOfTheResetTable : Obligations.ResetHoldsTheValuesOfTheResetTable := by
  unfold Obligations.ResetHoldsTheValuesOfTheResetTable
  decide

end Sys2Proof.Machine

/-! PROOFS of what follows from the invariant: a read fails only on its address byte (R178), and of `BUF` only the
payload byte matters to a transition (R61, R62, R68, R70, R71). -/

namespace Sys2Proof.Machine

/-! ## The set-acknowledge and the flags (R178) -/

/-- FinishAck's first part neither reads nor writes `acknowledgeBit` (R176). -/
theorem State.finishAckConsume_acknowledgeBit {s u : State} (h : s.finishAckConsume = .next u) (b : Bool) :
    ({ s with acknowledgeBit := b } : State).finishAckConsume = .next { u with acknowledgeBit := b } := by
  obtain ⟨haddr, rfl⟩ | ⟨haddr, hwrite, rfl⟩ | ⟨haddr, hread, d, hdata, hlt, rfl⟩ :=
    State.finishAckConsume_cases h
  · exact State.finishAckConsume_address (s := { s with acknowledgeBit := b }) haddr
  · exact State.finishAckConsume_sent (s := { s with acknowledgeBit := b }) haddr hwrite
  · exact State.finishAckConsume_received (s := { s with acknowledgeBit := b }) ⟨haddr, hread⟩ hdata hlt

/-- After a set-acknowledge FinishAck's second part neither reads nor writes it (R177, R178). -/
theorem State.finishAckDispatch_acknowledgeBit {u t : State} (h : u.finishAckDispatch .set = .next t)
    (b : Bool) : ({ u with acknowledgeBit := b } : State).finishAckDispatch .set =
      .next { t with acknowledgeBit := b } := by
  obtain ⟨hnack, -⟩ | ⟨-, hpending, hwrite, d, hdata, hlt, rfl⟩ | ⟨-, hpending, hread, rfl⟩ |
    ⟨-, hdone, hstop, rfl⟩ | ⟨-, hdone, hhold, rfl⟩ := State.finishAckDispatch_cases h
  · cases hnack
  · exact State.finishAckDispatch_send (s := { u with acknowledgeBit := b }) rfl hpending hwrite hdata hlt
  · exact State.finishAckDispatch_receive (s := { u with acknowledgeBit := b }) rfl hpending hread
  · exact State.finishAckDispatch_stop (s := { u with acknowledgeBit := b }) rfl hdone hstop
  · exact State.finishAckDispatch_hold (s := { u with acknowledgeBit := b }) rfl hdone hhold

/-- No instruction but CACK_SCL_LOW sets `acknowledgeError` (R30). -/
theorem exec_acknowledgeError {i : Instr} {s t : State} (h : exec i s = .next t)
    (hclear : s.acknowledgeError = false) (hset : t.acknowledgeError = true) : i = .cackSclLow := by
  have hrecord : t.acknowledgeError = (recordAfter i s).acknowledgeError :=
    congrArg CallRecord.acknowledgeError (exec_callRecord h)
  have hstop := recordAfter_stop (i := i) s
  rw [hrecord] at hset
  cases i with
  | cackSclLow => rfl
  | stopWrite | stopRead =>
    obtain ⟨-, hrecord⟩ | hrecord := hstop (by simp) <;> simp [hrecord, hclear] at hset
  | _ => simp [recordAfter, hclear] at hset

/-- Settles O31: FinishAck after a set-acknowledge, and the context of the one step that samples the flag. -/
theorem setAcknowledgeIsNeverAnError : Obligations.SetAcknowledgeIsNeverAnError := by
  unfold Obligations.SetAcknowledgeIsNeverAnError
  refine ⟨fun s t b h => ?_, fun s t hinv h hread hclear hset => ?_⟩
  · have hrecord := exec_callRecord h
    obtain ⟨u, hc, hd⟩ := State.finishAck_cases h
    refine ⟨congrArg CallRecord.acknowledgeBit hrecord, congrArg CallRecord.acknowledgeError hrecord, ?_⟩
    have hconsume := State.finishAckConsume_acknowledgeBit hc b
    have hdispatch := State.finishAckDispatch_acknowledgeBit hd b
    exact andThen_next.mpr ⟨_, hconsume, hdispatch⟩
  · obtain ⟨n, c, ms, i, -, hdecode, hexec⟩ | ⟨i, -, hstep, hne, hexec⟩ | ⟨-, -, -, rfl⟩ |
      ⟨n, addr, v, ms, -, haddr, -, rfl⟩ := step_cases h
    · cases exec_acknowledgeError hexec hclear hset
      cases decodeCommand_isStep hdecode
    · cases exec_acknowledgeError hexec hclear hset
      obtain ⟨-, hctx⟩ := hinv.fire hstep (fireCounted s.hostMoves)
      simp only [stepContext, Bool.and_eq_true] at hctx
      exact (State.transmits_sent hctx.1.1).resolve_right (by simp [hread])
    · cases hclear.symm.trans hset
    · cases hclear.symm.trans hset

/-! ## The payload byte (R62, R70) -/

/-- The payload address of a buffer is `data + dataIndex` (R25). -/
theorem State.payloadAddress_of_data {s : State} {d : Nat} (hdata : s.data = some d) :
    s.payloadAddress = .next (d + s.dataIndex) := by
  rw [State.payloadAddress, hdata]

/-- In its context a step leaves `BUF` as it was, but for SACK_SCL_LOW, which stores the received byte (R62,
R179). -/
theorem exec_buf_of_context {i : Instr} {s t : State} (h : exec i s = .next t)
    (hctx : stepContext i s = true) : t.buf = s.buf ∨ i = .sackSclLow ∧ s.StoredIn t.buf := by
  by_cases hfinish : i = .cackSclLow ∨ i = .sackSclLow
  · obtain ⟨-, hkept⟩ | ⟨hheld, hstored⟩ := exec_buf_of_finishAck h hfinish
    · exact .inl hkept
    · refine .inr ⟨hfinish.resolve_left ?_, hstored⟩
      rintro rfl
      simp only [stepContext, Bool.and_eq_true] at hctx
      exact State.not_holdsReceivedByte_iff.mpr (State.transmits_sent hctx.1.1) hheld
  · obtain ⟨hcack, hsack⟩ := not_or.mp hfinish
    exact .inl (exec_buf_of_ne h hcack hsack)

/-- Settles O50: a command writes no byte, the host has no store, and of the steps the context leaves only
SACK_SCL_LOW a byte to store. -/
theorem onlyTheEngineWritesTheBufferSpaceInFlight :
    Obligations.OnlyTheEngineWritesTheBufferSpaceInFlight := by
  unfold Obligations.OnlyTheEngineWritesTheBufferSpaceInFlight
  intro s t a hinv hbusy h hchanged
  have hwritten : t.buf ≠ s.buf := fun hbuf => hchanged (State.byteAt_of_buf hbuf a)
  obtain ⟨n, c, ms, i, -, hdecode, hexec⟩ | ⟨i, -, hstep, hne, hexec⟩ | ⟨-, -, -, rfl⟩ |
    ⟨n, addr, v, ms, -, -, hidle, rfl⟩ := step_cases h
  · have hcommand := decodeCommand_isStep hdecode
    exact absurd (exec_buf_of_ne hexec (by rintro rfl; cases hcommand) (by rintro rfl; cases hcommand))
      hwritten
  · obtain ⟨-, hctx⟩ := hinv.fire hstep (fireCounted s.hostMoves)
    obtain hkept | ⟨rfl, d, hdata, -, hbuf⟩ := exec_buf_of_context hexec hctx
    · exact absurd hkept hwritten
    · have hpayload : a = d + s.dataIndex := by
        by_contra hne
        exact hchanged (State.byteAt_of_write_other hbuf hne)
      subst hpayload
      obtain ⟨hcode, -⟩ := stepOfCode_some hstep
      obtain ⟨-, hwf, -⟩ := hinv
      exact ⟨by simpa [encode] using hcode.symm, State.payloadAddress_of_data hdata,
        State.byteAt_of_write_same hbuf hwf⟩
  · exact absurd rfl hwritten
  · exact absurd hidle hbusy

/-! ## The other bytes (R61, R62, R68) -/

section
variable {s t : State} {i : Instr}

/-- The buffer space `m` holds what `BUF` holds at every address of the buffer in flight. -/
def State.SameBuffer (s : State) (m : List Host.Cell) : Prop :=
  ∀ d k, s.data = some d → k < s.dataSize → Memory.read m (d + k) = s.byteAt (d + k)

/-- FinishAck's second part reads no byte but the next payload byte of a write (R177). -/
theorem State.finishAckDispatch_withBuf {m : List Host.Cell} {k : AckKind}
    (hsame : s.lastOperationWasWrite = true → s.SameBuffer m) (h : s.finishAckDispatch k = .next t) :
    ({ s with buf := m } : State).finishAckDispatch k = .next { t with buf := m } := by
  have hnacked : ({ s with buf := m } : State).nacked k = s.nacked k := by cases k <;> rfl
  obtain ⟨hnack, rfl⟩ | ⟨hack, hpending, hwrite, d, hdata, hlt, rfl⟩ | ⟨hack, hpending, hread, rfl⟩ |
    ⟨hack, hdone, hstop, rfl⟩ | ⟨hack, hdone, hhold, rfl⟩ := State.finishAckDispatch_cases h
  · exact State.finishAckDispatch_nack (hnacked.trans hnack)
  · have hbyte : State.byteAt { s with buf := m } (d + s.dataIndex) = s.byteAt (d + s.dataIndex) :=
      hsame hwrite d _ hdata hpending
    rw [State.finishAckDispatch_send (s := { s with buf := m }) (hnacked.trans hack) hpending hwrite hdata
      hlt, hbyte]
    rfl
  · exact State.finishAckDispatch_receive (s := { s with buf := m }) (hnacked.trans hack) hpending hread
  · exact State.finishAckDispatch_stop (s := { s with buf := m }) (hnacked.trans hack) hdone hstop
  · exact State.finishAckDispatch_hold (s := { s with buf := m }) (hnacked.trans hack) hdone hhold

/-- CACK_SCL_LOW in its context reads no byte but one of the buffer (R61). -/
theorem exec_cackSclLow_withBuf {m : List Host.Cell} (hctx : stepContext .cackSclLow s = true)
    (hsame : s.SameBuffer m) (h : exec .cackSclLow s = .next t) :
    exec .cackSclLow { s with buf := m } = .next { t with buf := m } := by
  simp only [stepContext, State.sdaListens, Bool.and_eq_true, decide_eq_true_eq] at hctx
  obtain ⟨⟨hsent, hinput⟩, -⟩ := hctx
  have hdir : s.sda.dir ≠ .outputPushPull := by simp [hinput]
  have hbyte := State.transmits_sent hsent
  rw [exec_cackSclLow_of_dir hdir hbyte] at h
  rw [exec_cackSclLow_of_dir (s := { s with buf := m }) hdir hbyte]
  exact State.finishAckDispatch_withBuf (s := ackSampled s _) (fun _ => hsame) h

/-- SACK_SCL_LOW in its context stores one byte of the buffer and reads none (R61, R62). -/
theorem exec_sackSclLow_withBuf (m : List Host.Cell) (hcursor : s.cursorOk = true)
    (hctx : stepContext .sackSclLow s = true) (h : exec .sackSclLow s = .next t) :
    ∃ d, s.data = some d ∧ s.dataIndex < s.dataSize ∧
      t.buf = Memory.write s.buf (d + s.dataIndex) s.activeByte ∧
      exec .sackSclLow { s with buf := m } =
        .next { t with buf := Memory.write m (d + s.dataIndex) s.activeByte } := by
  simp only [stepContext, Bool.and_eq_true] at hctx
  obtain ⟨-, haddr, hread, hpending⟩ := State.receives_iff.mp hctx.1.1
  obtain ⟨d, hdata, hlt⟩ := State.exists_payload hcursor hpending
  rw [exec_sackSclLow_of_data ⟨haddr, hread⟩ hdata hlt] at h
  refine ⟨d, hdata, hpending, State.finishAckDispatch_buf h, ?_⟩
  rw [exec_sackSclLow_of_data (s := { s with buf := m }) ⟨haddr, hread⟩ hdata hlt]
  have hnoRead (hwrite : s.lastOperationWasWrite = true) := Bool.false_ne_true (hread.symm.trans hwrite)
  exact State.finishAckDispatch_withBuf (s := received s d) (fun hwrite => (hnoRead hwrite).elim) h

/-- Every step but SACK_SCL_LOW does the same in its context with other bytes outside the buffer (R61). -/
theorem exec_withBuf {m : List Host.Cell} (hctx : stepContext i s = true) (hsack : i ≠ .sackSclLow)
    (hsame : s.SameBuffer m) (h : exec i s = .next t) :
    exec i { s with buf := m } = .next { t with buf := m } := by
  cases i with
  | sackSclLow => exact absurd rfl hsack
  | init | setAddress | setFrame | write | read | stopWrite | stopRead | setFrequency => cases hctx
  | cackSclLow => exact exec_cackSclLow_withBuf hctx hsame h
  | rbitSclHigh =>
    have hdir : s.bitIndex = 7 ∨ s.sda.dir ≠ .outputPushPull := by
      by_cases hfirst : s.bitIndex = 7
      · exact .inl hfirst
      · exact .inr (by simp_all [stepContext, State.sdaListens])
    obtain ⟨hrun, -⟩ := rbitSclHighSamplesBeforeSclRises s hdir
    cases hrun.symm.trans h
    exact (rbitSclHighSamplesBeforeSclRises { s with buf := m } hdir).left
  | wbitSclLow =>
    obtain ⟨-, hrun, -⟩ := wbitClocksTheBitAndCountsDown s
    obtain ⟨-, hrun', -⟩ := wbitClocksTheBitAndCountsDown { s with buf := m }
    cases hrun.symm.trans h
    exact hrun'
  | rbitSclLow =>
    obtain ⟨hrun, -⟩ := rbitSclLowAccumulatesTheSampledBit s
    cases hrun.symm.trans h
    exact (rbitSclLowAccumulatesTheSampledBit { s with buf := m }).left
  | wbitSda =>
    obtain ⟨hrun, -⟩ := wbitSdaDrivesTheCurrentBit s
    cases hrun.symm.trans h
    exact (wbitSdaDrivesTheCurrentBit { s with buf := m }).left
  | sackSda =>
    obtain hmore | hlast := lt_or_ge (s.dataIndex + 1) s.dataSize
    · cases (execSackSda_of_more hmore).symm.trans h
      exact execSackSda_of_more (s := { s with buf := m }) hmore
    · cases (execSackSda_of_last hlast).symm.trans h
      exact execSackSda_of_last (s := { s with buf := m }) hlast
  | _ =>
    cases h
    rfl

/-- A write outside the buffer in flight leaves the buffer's bytes. -/
theorem State.sameBuffer_write {a : Nat} {v : Byte}
    (hout : ∀ d, s.data = some d → a < d ∨ d + s.dataSize ≤ a) : s.SameBuffer (Memory.write s.buf a v) := by
  intro d k hdata hk
  have := hout d hdata
  exact Memory.read_write_other _ _ _ _ (by omega)

/-- Two writes at different addresses read the same in either order. -/
theorem Memory.read_write_write {aw : Nat} {m : List Host.Cell} {a p : Nat} {v x : Byte}
    (hwf : Memory.wf aw m = true) (ha : a < 2 ^ aw) (hne : p ≠ a) :
    Memory.read (Memory.write (Memory.write m a v) p x) a = v ∧ ∀ other, other ≠ a →
      Memory.read (Memory.write (Memory.write m a v) p x) other = Memory.read (Memory.write m p x) other := by
  refine ⟨?_, fun other hother => ?_⟩
  · rw [Memory.read_write_other _ _ _ _ hne.symm, Memory.read_write_same _ _ _ hwf]
  · obtain rfl | hp := eq_or_ne other p
    · rw [Memory.read_write_same _ _ _ (Memory.write_wf _ _ _ hwf ha), Memory.read_write_same _ _ _ hwf]
    · simp only [Memory.read_write_other _ _ _ _ hp, Memory.read_write_other _ _ _ _ hother]

/-- In its context a step neither changes nor reads a byte outside the buffer in flight (R61, R62, R68). -/
theorem exec_outside {a : Nat} (v : Byte) (hs : s.Sound) (hctx : stepContext i s = true)
    (ha : a < 2 ^ s.widths.aw) (hout : ∀ d, s.data = some d → a < d ∨ d + s.dataSize ≤ a)
    (h : exec i s = .next t) :
    t.byteAt a = s.byteAt a ∧ ∃ m, exec i { s with buf := Memory.write s.buf a v } = .next { t with buf := m } ∧
      Memory.read m a = v ∧ ∀ other, other ≠ a → Memory.read m other = t.byteAt other := by
  by_cases hsack : i = .sackSclLow
  · subst hsack
    obtain ⟨d, hdata, hpending, hbuf, hrun⟩ := exec_sackSclLow_withBuf (Memory.write s.buf a v) hs.cursor hctx h
    have hpayload : d + s.dataIndex ≠ a := by
      have := hout d hdata
      omega
    obtain ⟨hread, hother⟩ := Memory.read_write_write (x := s.activeByte) (v := v) hs.buf ha hpayload
    refine ⟨State.byteAt_of_write_other hbuf hpayload.symm, _, hrun, hread, fun other hne => ?_⟩
    rw [hother other hne, State.byteAt, hbuf]
  · have hbuf : t.buf = s.buf :=
      (exec_buf_of_context h hctx).resolve_right fun hstored => hsack hstored.left
    refine ⟨State.byteAt_of_buf hbuf a, _, exec_withBuf hctx hsack (State.sameBuffer_write hout) h,
      Memory.read_write_same _ _ _ hs.buf, fun other hne => ?_⟩
    rw [Memory.read_write_other _ _ _ _ hne, State.byteAt, hbuf]

end

/-- Settles O49: the fire's step does the same with another byte outside the buffer, and waiting reads none. -/
theorem bytesOutsideTheBufferNeitherChangeNorMatter :
    Obligations.BytesOutsideTheBufferNeitherChangeNorMatter := by
  unfold Obligations.BytesOutsideTheBufferNeitherChangeNorMatter
  intro s t a v hinv hmoves h ha hout
  obtain ⟨_, _, _, _, hcommand, -⟩ | ⟨i, harmed, hstep, hne, hexec⟩ | ⟨hdisarmed, -, hidle, rfl⟩ |
    ⟨_, _, _, _, hstore, -⟩ := step_cases h
  · cases hmoves.symm.trans hcommand
  · obtain ⟨hs, hctx⟩ := hinv.fire hstep (fireCounted s.hostMoves)
    obtain ⟨hkept, m, hrun, hread, hother⟩ := exec_outside v hs hctx ha hout hexec
    have hfire := step_of_fire (s := { s with buf := Memory.write s.buf a v }) harmed (by simp [hmoves])
      hstep hne
    exact ⟨hkept, { t with buf := m }, hfire.trans hrun, rfl, hread, hother⟩
  · obtain ⟨-, hwf, -⟩ := hinv
    obtain ⟨-, hwaits, -⟩ := idleExecutesNothing
    exact ⟨rfl, _, hwaits { t with buf := Memory.write t.buf a v } hidle hdisarmed hmoves, rfl,
      Memory.read_write_same _ _ _ hwf, fun other hne => Memory.read_write_other _ _ _ _ hne⟩
  · cases hmoves.symm.trans hstore

end Sys2Proof.Machine

/-! PROOFS of whole runs: the byte shifter's bytes (R63, R156), and an acknowledged write from its command to its
Stop (E2, R273). -/

namespace Sys2Proof.Machine

/-! ## Runs (R111) -/

/-- `n` transitions lead from `s` to `t`, and none of them stops. -/
def Reaches (n : Nat) (s t : State) : Prop := core.run n s = .next t

/-- The state on which a fire runs its step (R112). -/
@[simps] def State.disarmed (s : State) : State := { s with timerArmed := false }

@[simp] theorem State.disarmed_envLowSda (s : State) : s.disarmed.envLowSda = s.envLowSda := rfl

section
variable {s t u : State} {i : Instr} {m n : Nat}

/-- A run goes on where a shorter one ends. -/
theorem Reaches.trans (hst : Reaches m s t) (htu : Reaches n t u) : Reaches (m + n) s u := by
  induction m generalizing s with
  | zero =>
    cases hst
    rwa [Nat.zero_add]
  | succ m ih =>
    simp only [Reaches, Nat.succ_add, Host.Core.run] at hst ⊢
    split at hst
    · exact ih hst
    · cases hst
    · cases hst

/-- With no host move an armed timer fires, and the step runs on the state with the timer disarmed (R112). -/
theorem Reaches.fire {code : StepCode} (harmed : s.timerArmed = true) (hmoves : s.hostMoves = [])
    (hstep : s.step = code) (hcode : stepOfCode code = some i) (hne : i ≠ .idle) (h : exec i s.disarmed = .next t) :
    Reaches 1 s t := by
  have hquiet : fireCounted s.hostMoves = s.hostMoves := by rw [hmoves]; rfl
  have hfire := step_of_fire harmed (by simp [hmoves]) (hstep ▸ hcode) hne
  rw [hquiet] at hfire
  have hcore : core.step s = .next t := hfire.trans h
  simp only [Reaches, Host.Core.run, hcore]

end

/-- Before its last bit a byte's count has not wrapped (R153, R155). -/
theorem bitIndex_of_succ {i : BitVec 3} {n : Nat} (h : i.toNat = n + 1) : i ≠ 0 ∧ (i - 1).toNat = n := by
  constructor <;> bv_omega

/-! ## A transmitted byte (R151 to R153, R156) -/

section
variable {s : State}

/-- The state after the three fires of a transmitted bit (R151 to R153). -/
@[simps] def State.bitSent (s : State) : State := { s with
  sda := { s.sda with latch := s.currentBit }, scl := { s.scl with latch := false }
  bitIndex := s.bitIndex - 1, step := if s.bitIndex = 0 then 0x08 else 0x05
  pinCallLog := s.pinCallLog ++ sentBitCalls s.currentBit }

/-- A bit takes three fires: WBIT_SDA, WBIT_SCL_HIGH and WBIT_SCL_LOW. -/
theorem reaches_bitSent (hstep : s.step = 0x05) (harmed : s.timerArmed = true) (hmoves : s.hostMoves = []) :
    Reaches 3 s s.bitSent := by
  have hdrive := Reaches.fire harmed hmoves hstep stepOfCode_wbitSda (by decide)
    (wbitSdaDrivesTheCurrentBit s.disarmed).left
  have hrun := (hdrive.trans (.fire rfl (by simpa using hmoves) rfl stepOfCode_wbitSclHigh (by decide) rfl)).trans
    (.fire rfl (by simpa using hmoves) rfl stepOfCode_wbitSclLow (by decide) rfl)
  convert hrun using 1
  rw [State.afterBit_eq]
  simp [State.bitSent, State.disarmed, sentBitCalls, State.sclSet, State.sclReset, State.goto, State.timerStart,
    State.logCall, State.currentBit, harmed]
  rfl

/-- The pin calls of the bits of `b` from bit `n` down to bit 0. -/
def sentBitsCalls (b : Byte) (n : Nat) : List PinCall :=
  (List.range (n + 1)).reverse.flatMap fun i => sentBitCalls (b.getLsbD i)

/-- The calls from bit `n + 1` down begin with that bit's. -/
theorem sentBitsCalls_succ (b : Byte) (n : Nat) :
    sentBitsCalls b (n + 1) = sentBitCalls (b.getLsbD (n + 1)) ++ sentBitsCalls b n := by
  simp [sentBitsCalls, List.range_succ (n := n + 1)]

/-- A byte's calls are those of its bits from bit 7 down (R63). -/
theorem sentBitsCalls_seven (b : Byte) : sentBitsCalls b 7 = sentByteCalls b := rfl

/-- The state after the bits of `activeByte` from bit `bitIndex` down have been transmitted (R156). -/
@[simps] def State.bitsSent (s : State) : State := { s with
  step := 0x08, bitIndex := 7, scl := { s.scl with latch := false }
  sda := { s.sda with latch := s.activeByte.getLsbD 0 }
  pinCallLog := s.pinCallLog ++ sentBitsCalls s.activeByte s.bitIndex.toNat }

/-- The bits from bit `n` down take three fires each (R156). -/
theorem reaches_bitsSent (n : Nat) (hn : s.bitIndex.toNat = n) (hstep : s.step = 0x05)
    (harmed : s.timerArmed = true) (hmoves : s.hostMoves = []) : Reaches (3 * (n + 1)) s s.bitsSent := by
  induction n generalizing s with
  | zero =>
    have hlast : s.bitIndex = 0 := BitVec.eq_of_toNat_eq hn
    convert reaches_bitSent hstep harmed hmoves using 1
    simp [State.bitsSent, State.bitSent, sentBitsCalls, State.currentBit, hlast]
  | succ n ih =>
    obtain ⟨hmore, hcount⟩ := bitIndex_of_succ hn
    have hrest := ih (s := s.bitSent) hcount (if_neg hmore) harmed hmoves
    convert (reaches_bitSent hstep harmed hmoves).trans hrest using 1
    · omega
    · simp only [State.bitsSent, State.bitSent_bitIndex, hn, hcount, sentBitsCalls_succ]
      simp [State.currentBit, hn]

/-- Settles O23: the eight bits of a byte, from bit 7. -/
theorem transmittedByteIsShiftedMsbFirst : Obligations.TransmittedByteIsShiftedMsbFirst := by
  unfold Obligations.TransmittedByteIsShiftedMsbFirst
  intro s hstep hindex harmed hmoves
  have hrun := reaches_bitsSent 7 (by rw [hindex]; rfl) hstep harmed hmoves
  rw [State.bitsSent, hindex] at hrun
  exact hrun

end

/-! ## A received byte (R154 to R156) -/

/-- The bits of `b` from bit `n` up, the others 0. -/
def highBits (b : Byte) (n : Nat) : Byte := (b >>> n) <<< n

theorem getLsbD_highBits (b : Byte) (n i : Nat) :
    (highBits b n).getLsbD i = (decide (n ≤ i) && b.getLsbD i) := by
  by_cases hle : n ≤ i
  · have hadd : n + (i - n) = i := by omega
    by_cases hlt : i < 8
    · simp [highBits, hle, hlt, hadd]
    · simp [hle, BitVec.getLsbD_of_ge _ _ (Nat.le_of_not_lt hlt)]
  · simp [highBits, hle]

/-- All bits of a byte are its bits from bit 0 up. -/
theorem highBits_zero (b : Byte) : highBits b 0 = b := by
  simp [highBits]

/-- A byte has no bit from bit 8 up. -/
theorem highBits_eight (b : Byte) : highBits b 8 = 0 := by
  simp [highBits]

/-- The bits from bit `n` up are those from bit `n + 1` up with bit `n` ORed in. -/
theorem highBits_succ_or (b : Byte) {n : Nat} (hn : n < 8) :
    highBits b (n + 1) ||| ((BitVec.ofBool (b.getLsbD n)).setWidth 8 <<< n) = highBits b n := by
  ext i hi
  simp only [← BitVec.getLsbD_eq_getElem, BitVec.getLsbD_or, getLsbD_highBits, BitVec.getLsbD_shiftLeft]
  obtain hlt | rfl | hgt := Nat.lt_trichotomy i n
  · have hnot : ¬n + 1 ≤ i := by omega
    simp [hlt, hlt.not_ge, hnot]
  · simp [hi]
  · have hsub : i - n ≠ 0 := by omega
    simp [hgt.le, Nat.succ_le_of_lt hgt, hi, hsub]

section
variable {s : State}

/-- The state after the two fires of a received bit, which keep the environment's level (R154, R155). -/
@[simps] def State.bitReceived (s : State) : State := { s with
  sda := { s.sda with dir := .input }, scl := { s.scl with latch := false }, sampledBit := !s.envLowSda
  activeByte := s.activeByte ||| ((BitVec.ofBool !s.envLowSda).setWidth 8 <<< s.bitIndex.toNat)
  bitIndex := s.bitIndex - 1, step := if s.bitIndex = 0 then 0x0C else 0x0A
  envDraws := s.envDraws.tail, samplesTaken := s.samplesTaken + 1
  pinCallLog := s.pinCallLog ++ (if s.bitIndex = 7 then [.sda (.setDirection .input)] else []) ++
    [.sda (.state !s.envLowSda), .scl .set, .timerStart, .scl .reset, .timerStart] }

/-- At the first bit of a byte and with SDA an input, RBIT_SCL_HIGH leaves SDA an input and keeps the
environment's level (R154, R117). -/
theorem exec_rbitSclHigh_of_input (hinput : s.bitIndex = 7 ∨ s.sda.dir = .input) :
    exec .rbitSclHigh s = .next { s with
      sda := { s.sda with dir := .input }, scl := { s.scl with latch := true }, sampledBit := !s.envLowSda
      step := 0x0B, timerArmed := true, envDraws := s.envDraws.tail, samplesTaken := s.samplesTaken + 1
      pinCallLog := s.pinCallLog ++ (if s.bitIndex = 7 then [.sda (.setDirection .input)] else []) ++
        [.sda (.state !s.envLowSda), .scl .set, .timerStart] } := by
  have hsda : (if s.bitIndex = 7 then { s.sda with dir := .input } else s.sda) =
      { s.sda with dir := .input } := by
    obtain hfirst | hdir := hinput
    · rw [if_pos hfirst]
    · rw [← hdir, ite_self]
  rw [(rbitSclHighSamplesBeforeSclRises s (hinput.imp_right (by simp +contextual))).left]
  simp only [hsda]
  simp

/-- A bit takes two fires: RBIT_SCL_HIGH, with SDA an input from bit 7 on, and RBIT_SCL_LOW. -/
theorem reaches_bitReceived (hstep : s.step = 0x0A) (harmed : s.timerArmed = true) (hmoves : s.hostMoves = [])
    (hinput : s.bitIndex = 7 ∨ s.sda.dir = .input) : Reaches 2 s s.bitReceived := by
  have hsample := Reaches.fire harmed hmoves hstep stepOfCode_rbitSclHigh (by decide)
    (exec_rbitSclHigh_of_input (s := s.disarmed) hinput)
  convert hsample.trans (.fire rfl (by simpa using hmoves) rfl stepOfCode_rbitSclLow (by decide) rfl) using 1
  rw [State.afterBit_eq]
  simp [State.bitReceived, State.accumulated, State.sclReset, State.goto, State.timerStart, State.logCall,
    harmed]

end

/-- The draws of a slave that sends the bits of `b` from bit `n` down to bit 0: a 0 pulls SDA low (R117). -/
def slaveDraws (b : Byte) (n : Nat) : List Bool := (List.range (n + 1)).reverse.map fun i => !b.getLsbD i

/-- The draws from bit `n + 1` down begin with that bit's. -/
theorem slaveDraws_succ (b : Byte) (n : Nat) :
    slaveDraws b (n + 1) = (!b.getLsbD (n + 1)) :: slaveDraws b n := by
  simp [slaveDraws, List.range_succ (n := n + 1)]

/-- The next given draw is the environment's (R117). -/
theorem State.envLowSda_of_cons {s : State} {d : Bool} {ds : List Bool} (h : s.envDraws = d :: ds) :
    s.envLowSda = d := by
  rw [State.envLowSda, h]

/-- What the reception of a byte leaves: the byte, the rest of the draws, and the set-acknowledge next. -/
structure ByteReceived (b : Byte) (rest : List Bool) (s t : State) : Prop where
  activeByte : t.activeByte = b
  step : t.step = 0x0C
  bitIndex : t.bitIndex = 7
  envDraws : t.envDraws = rest
  buf : t.buf = s.buf
  dataIndex : t.dataIndex = s.dataIndex
  signalLog : t.signalLog = s.signalLog

/-- A bit that the environment presents extends the received bits (R155). -/
theorem State.bitReceived_highBits {s : State} {b : Byte} {n : Nat} (hn : s.bitIndex.toNat = n)
    (hhigh : s.activeByte = highBits b (n + 1)) (hdraw : s.envLowSda = !b.getLsbD n) :
    s.bitReceived.activeByte = highBits b n := by
  rw [State.bitReceived_activeByte, hhigh, hdraw, hn, Bool.not_not,
    highBits_succ_or b (hn ▸ s.bitIndex.isLt)]

/-- The bits from bit `n` down take two fires each, and complete the byte (R156). -/
theorem reaches_byteReceived {s : State} {b : Byte} {rest : List Bool} (n : Nat) (hn : s.bitIndex.toNat = n)
    (hstep : s.step = 0x0A) (harmed : s.timerArmed = true) (hmoves : s.hostMoves = [])
    (hinput : s.bitIndex = 7 ∨ s.sda.dir = .input) (hhigh : s.activeByte = highBits b (n + 1))
    (hdraws : s.envDraws = slaveDraws b n ++ rest) :
    ∃ t, Reaches (2 * (n + 1)) s t ∧ ByteReceived b rest s t := by
  induction n generalizing s with
  | zero =>
    have hlast : s.bitIndex = 0 := BitVec.eq_of_toNat_eq hn
    have hdraw : s.envDraws = (!b.getLsbD 0) :: rest := hdraws
    have hbyte := State.bitReceived_highBits hn hhigh (State.envLowSda_of_cons hdraw)
    exact ⟨s.bitReceived, reaches_bitReceived hstep harmed hmoves hinput,
      hbyte.trans (highBits_zero b), if_pos hlast, by simp [hlast], by simp [hdraw], rfl, rfl, rfl⟩
  | succ n ih =>
    obtain ⟨hmore, hcount⟩ := bitIndex_of_succ hn
    have hdraw : s.envDraws = (!b.getLsbD (n + 1)) :: (slaveDraws b n ++ rest) := by
      rw [hdraws, slaveDraws_succ, List.cons_append]
    have hbyte := State.bitReceived_highBits hn hhigh (State.envLowSda_of_cons hdraw)
    obtain ⟨t, hrun, hreceived⟩ :=
      ih (s := s.bitReceived) hcount (if_neg hmore) harmed hmoves (.inr rfl) hbyte (by simp [hdraw])
    have hall := (reaches_bitReceived hstep harmed hmoves hinput).trans hrun
    rw [show 2 + 2 * (n + 1) = 2 * (n + 1 + 1) by omega] at hall
    obtain ⟨hactive, hnext, hindex, hrest, hbuf, hcursor, hsignals⟩ := hreceived
    exact ⟨t, hall, hactive, hnext, hindex, hrest, hbuf, hcursor, hsignals⟩

/-- Settles O24: the eight bits of a byte, from bit 7. -/
theorem receivedByteIsTheByteOnTheLine : Obligations.ReceivedByteIsTheByteOnTheLine := by
  unfold Obligations.ReceivedByteIsTheByteOnTheLine
  intro s b rest hstep hindex hzero harmed hmoves hdraws
  obtain ⟨t, hrun, hactive, hnext, hcount, hrest, hbuf, hcursor, hsignals⟩ :=
    reaches_byteReceived 7 (by rw [hindex]; rfl) hstep harmed hmoves (.inl hindex)
      (hzero.trans (highBits_eight b).symm) hdraws
  exact ⟨t, hrun, hactive, hnext, hcount, hrest, hbuf, hcursor, hsignals⟩

end Sys2Proof.Machine

/-! PROOFS for the first property of the spec's section 8 (E2, R273): an acknowledged write from its command to its
Stop. -/

namespace Sys2Proof.Machine

/-! ## The phases of a transfer -/

section
variable {s t : State}

/-- The state after the two fires of a Start (R131, R132). -/
@[simps] def State.started (s : State) : State := { s with
  sda := { s.sda with latch := false }, scl := { s.scl with latch := false }, step := 0x05
  pinCallLog := s.pinCallLog ++ startCalls }

/-- A Start takes two fires: START_SDA_LOW and START_SCL_LOW. -/
theorem reaches_started (hstep : s.step = 0x01) (harmed : s.timerArmed = true) (hmoves : s.hostMoves = []) :
    Reaches 2 s s.started := by
  have hfirst := Reaches.fire harmed hmoves hstep stepOfCode_startSdaLow (by decide) rfl
  convert hfirst.trans (.fire rfl (by simpa using hmoves) rfl stepOfCode_startSclLow (by decide) rfl) using 1
  simp [State.started, startCalls, State.sdaReset, State.sclReset, State.goto, State.timerStart,
    State.logCall, harmed]

/-- The state after the three fires of a Stop (R135 to R139). -/
@[simps] def State.stopped (s : State) : State := { s with
  sda := { s.sda with latch := true }, scl := { s.scl with latch := true }, step := 0x00
  timerArmed := false, data := none, dataSize := 0, dataIndex := 0
  pinCallLog := s.pinCallLog ++ stopCalls, signalLog := s.signalLog ++ [s.completionSignal] }

/-- A Stop takes three fires: STOP_SDA_LOW, STOP_SCL_HIGH and STOP_SDA_HIGH. -/
theorem reaches_stopped (hstep : s.step = 0x0F) (harmed : s.timerArmed = true) (hmoves : s.hostMoves = []) :
    Reaches 3 s s.stopped := by
  have hfirst := Reaches.fire harmed hmoves hstep stepOfCode_stopSdaLow (by decide) rfl
  have hsecond := hfirst.trans (.fire rfl (by simpa using hmoves) rfl stepOfCode_stopSclHigh (by decide) rfl)
  convert hsecond.trans (.fire rfl (by simpa using hmoves) rfl stepOfCode_stopSdaHigh (by decide) rfl) using 1
  simp [State.stopped, stopCalls, State.sdaReset, State.sclSet, State.sdaSet, State.goto, State.timerStart,
    State.logCall, State.clearContext, State.rest, State.emit, State.completionSignal, State.successSignal]

/-- The state in which FinishAck dispatches after a transmitted byte that was acknowledged (R172, R176). -/
@[simps] def State.byteAcked (s : State) : State := { s with
  acknowledgeBit := false, writingAddress := false
  dataIndex := if s.writingAddress then s.dataIndex else s.dataIndex + 1
  bitIndex := 7, sda := { dir := .outputOpenDrain, latch := s.activeByte.getLsbD 0 }
  scl := { s.scl with latch := false }, step := 0x09, timerArmed := false
  envDraws := s.envDraws.tail, samplesTaken := s.samplesTaken + 1
  pinCallLog := s.pinCallLog ++ sentByteCalls s.activeByte ++ checkCalls false }

/-- A transmitted byte and its check take 26 fires: the 24 of the byte, CACK_SCL_HIGH and CACK_SCL_LOW, with
FinishAck in the last. -/
theorem reaches_ackedByte {rest : List Bool} (hstep : s.step = 0x05) (hindex : s.bitIndex = 7)
    (harmed : s.timerArmed = true) (hmoves : s.hostMoves = [])
    (hsent : s.writingAddress = true ∨ s.lastOperationWasWrite = true) (hdraw : s.envDraws = true :: rest)
    (h : s.byteAcked.finishAckDispatch .check = .next t) : Reaches 26 s t := by
  have hbits := reaches_bitsSent 7 (by rw [hindex]; rfl) hstep harmed hmoves
  have hrise := hbits.trans (.fire harmed hmoves rfl stepOfCode_cackSclHigh (by decide) rfl)
  refine hrise.trans (.fire rfl (by simpa using hmoves) rfl stepOfCode_cackSclLow (by decide) ?_)
  have hlevel : ((s.bitsSent.disarmed.sdaSetDirection .input).sclSet.goto 0x09).disarmed.envLowSda = true :=
    State.envLowSda_of_cons hdraw
  have hacked : ackSampled ((s.bitsSent.disarmed.sdaSetDirection .input).sclSet.goto 0x09).disarmed false =
      s.byteAcked := by
    simp [ackSampled, State.byteAcked, checkCalls, hindex, sentBitsCalls_seven]
  rw [exec_cackSclLow_of_dir (by simp) (by simpa using hsent), hlevel, State.sdaWire_of_input (by simp),
    Bool.not_true, hacked, h]

end

/-! ## The payload of a write -/

/-- A write call whose buffer is at `d` stands between two of its bytes, none of which was NACKed, and its frame
stops (R176). -/
structure State.Writing (s : State) (d : Nat) : Prop where
  hostMoves : s.hostMoves = []
  writingAddress : s.writingAddress = false
  lastOperationWasWrite : s.lastOperationWasWrite = true
  acknowledgeBit : s.acknowledgeBit = false
  acknowledgeError : s.acknowledgeError = false
  lastFrame : endsWithStop s.lastFrame = true
  data : s.data = some d
  buffer : d + s.dataSize ≤ 2 ^ s.widths.aw

/-- FinishAck has begun the transmission of the next payload byte (R150, R177). -/
@[simps] def State.nextByte (s : State) (d : Nat) : State := { s with
  activeByte := s.byteAt (d + s.dataIndex), bitIndex := 7, step := 0x05, timerArmed := true
  pinCallLog := s.pinCallLog ++ [.timerStart] }

/-- The calls of the next `k` payload bytes, each acknowledged. -/
def payloadCalls (s : State) (d k : Nat) : List PinCall :=
  (List.range k).flatMap fun j => ackedByteCalls (s.byteAt (d + s.dataIndex + j))

/-- The calls of the payload begin with the next byte's, and go on with those after it. -/
theorem payloadCalls_succ {s t : State} {d k : Nat} (hbuf : t.buf = s.buf)
    (hindex : t.dataIndex = s.dataIndex + 1) :
    payloadCalls s d (k + 1) = ackedByteCalls (s.byteAt (d + s.dataIndex)) ++ payloadCalls t d k := by
  have hshift (j : Nat) : d + s.dataIndex + (j + 1) = d + (s.dataIndex + 1) + j := by omega
  simp only [payloadCalls, List.range_succ_eq_map, List.flatMap_cons, List.flatMap_map, State.byteAt, hbuf,
    hindex, Nat.add_zero, Nat.succ_eq_add_one, hshift]

/-- `t` follows from `s` by the transmission of the rest of the payload, `k` bytes: the Stop is next. -/
structure PayloadSent (d k : Nat) (rest : List Bool) (s t : State) : Prop where
  step : t.step = 0x0F
  timerArmed : t.timerArmed = true
  hostMoves : t.hostMoves = []
  success : t.completionSignal = .dataWritten
  buf : t.buf = s.buf
  envDraws : t.envDraws = rest
  signalLog : t.signalLog = s.signalLog
  pinCallLog : t.pinCallLog = s.pinCallLog ++ [.timerStart] ++ payloadCalls s d k

/-- With `k` bytes to go FinishAck dispatches, and 26 `k` fires later the payload is through (R177, R273). -/
theorem reaches_payloadSent {d : Nat} {rest : List Bool} (k : Nat) {s : State} (hs : s.Writing d)
    (hcount : s.dataIndex + k = s.dataSize) (hdraws : s.envDraws = List.replicate k true ++ rest) :
    ∃ u t, s.finishAckDispatch .check = .next u ∧ Reaches (26 * k) u t ∧ PayloadSent d k rest s t := by
  induction k generalizing s with
  | zero =>
    obtain ⟨hmoves, -, hwrite, hbit, herror, hframe, -, -⟩ := hs
    have hsuccess : (s.goto 0x0F).completionSignal = .dataWritten := by
      simp [State.completionSignal, State.successSignal, herror, hwrite]
    exact ⟨_, _, State.finishAckDispatch_stop hbit (by omega) hframe, rfl, rfl, rfl, hmoves, hsuccess, rfl,
      hdraws, rfl, by simp [payloadCalls]⟩
  | succ k ih =>
    obtain ⟨hmoves, haddr, hwrite, hbit, herror, hframe, hdata, hbuffer⟩ := hs
    have hsend : s.finishAckDispatch .check = .next (s.nextByte d) :=
      State.finishAckDispatch_send hbit (by omega) hwrite hdata (by omega)
    have hindex : (s.nextByte d).byteAcked.dataIndex = s.dataIndex + 1 := by simp [haddr]
    have hdraw : s.envDraws = true :: (List.replicate k true ++ rest) := hdraws
    obtain ⟨u, t, hdispatch, hrun, hsent⟩ := ih (s := (s.nextByte d).byteAcked)
      ⟨hmoves, rfl, hwrite, rfl, herror, hframe, hdata, hbuffer⟩
      (by rw [hindex]; simp; omega) (by simp [hdraw])
    have hbyte : Reaches 26 (s.nextByte d) u :=
      reaches_ackedByte rfl rfl rfl hmoves (.inr hwrite) hdraw hdispatch
    refine ⟨_, t, hsend, ?_, { hsent with pinCallLog := ?_ }⟩
    · rw [Nat.mul_succ, Nat.add_comm]
      exact hbyte.trans hrun
    · have hcalls := payloadCalls_succ (s := s) (d := d) (k := k) (t := (s.nextByte d).byteAcked) rfl hindex
      rw [hsent.pinCallLog, hcalls]
      simp [ackedByteCalls]

/-! ## The whole write -/

/-- Settles O59: the Start, the address byte, the payload and the Stop. -/
theorem acknowledgedWriteIsStartBytesStop : Obligations.AcknowledgedWriteIsStartBytesStop := by
  unfold Obligations.AcknowledgedWriteIsStartBytesStop
  intro s base n rest hidle _ hframe hmoves hbuffer hdraws
  have hwrite := exec_write_of_start (base := base) (size := n) hidle (by rw [hframe]; rfl)
  have hbegun := reaches_started (s := ((s.recordCall base n true).beginAddressByte false).goto 0x01)
    rfl rfl hmoves
  generalize hs : ((s.recordCall base n true).beginAddressByte false).goto 0x01 = s' at hwrite hbegun
  have hdraw : s'.envDraws = true :: (List.replicate n true ++ rest) := by
    subst hs
    exact hdraws
  have hwriting : s'.started.byteAcked.Writing base.toNat := by
    subst hs
    exact ⟨hmoves, rfl, rfl, rfl, rfl, by simp [State.recordCall, hframe, endsWithStop], rfl, hbuffer⟩
  obtain ⟨u, t, hdispatch, hpayload, hsent⟩ := reaches_payloadSent (rest := rest) n hwriting
    (by subst hs; simp [State.recordCall]) (by simp [hdraw])
  have haddress : Reaches 26 s'.started u := by
    subst hs
    exact reaches_ackedByte rfl rfl rfl hmoves (.inl rfl) hdraw hdispatch
  have hstop := reaches_stopped hsent.step hsent.timerArmed hsent.hostMoves
  have hrun := ((hbegun.trans haddress).trans hpayload).trans hstop
  rw [show 2 + 26 + 26 * n + 3 = 26 * n + 31 by omega] at hrun
  refine ⟨s', t.stopped, hwrite, hrun, ?_, ?_, rfl, rfl, rfl, ?_, hsent.envDraws⟩
  · rw [State.stopped_pinCallLog, hsent.pinCallLog]
    subst hs
    simp [payloadCalls, ackedByteCalls, State.byteAt, State.recordCall]
  · rw [State.stopped_signalLog, hsent.success, hsent.signalLog]
    subst hs
    rfl
  · rw [State.stopped_buf, hsent.buf]
    subst hs
    rfl

end Sys2Proof.Machine
